-- ==== Sys2Proof/Word.lean ====
section
/-!
DEFINITION. The bit-vector widths of the control-link core (spec 00 R10, 10 R21 and R28, 30 R60 and R66) and the two
small records that move between its blocks: a mapped actuator command and a binary floating-point value.
-/

namespace Sys2Proof

/-- One byte of a datagram, and one axis register (R13, R21). -/
abbrev Byte := BitVec 8

/-- A transaction word `w[23:0]` (R66). -/
abbrev TxnWord := BitVec 24

/-- The 24-bit payload field of a datagram (R60). -/
abbrev Frame := BitVec 24

/-- The datagram buffer: byte `b[0]`, the first on the wire, is the head (R13, R40, R42). -/
abbrev Datagram := List Byte

/-- The servo duty port width, u11 (R28, R29). -/
abbrev ServoDuty := BitVec 11

/-- The motor duty port width, u15 (R28, R29). -/
abbrev MotorDuty := BitVec 15

/-- An ActuatorCommand, the pair (servoDuty, motorDuty) (R15, R146). -/
structure Command where
  servo : ServoDuty
  motor : MotorDuty
deriving DecidableEq, Repr

/-- The decoded triple of UNPACK (R122). It is combinational: no register holds it (R30). -/
structure Decoded where
  boost : Bool
  x : Byte
  y : Byte
deriving DecidableEq, Repr

/-- A finite binary floating-point value, `man * 2 ^ exp`, for the reference evaluation of the linear map (R141). -/
structure Fl where
  man : Int
  exp : Int
deriving DecidableEq, Repr

end Sys2Proof
end

