-- ==== Sys2Proof/Config.lean ====
section
/-!
DEFINITION. What is fixed while the hardware runs: the implementation parameters of spec 00 R8, as one record of plain
data, and the build-time constants of R9. A parameter the spec calls OPEN is a constant without a body, so that nothing
proved at `Config.thisHardware` can rest on a value of it (notes/assumptions/2.md and 3.md).
-/

namespace Sys2Proof

/-- The legal values of `WIRE_LEN` (R8, D1): the 8-byte baseline or the 3-byte form. -/
inductive WireLen where
  | w8
  | w3
deriving DecidableEq, Repr

/-- `WIRE_LEN` in bytes. -/
def WireLen.bytes : WireLen → Nat
  | .w8 => 8
  | .w3 => 3

/-- The legal timing parameters of R8: the timeout and the rate are positive, `TIMEOUT_TICKS` is at least 1, and it is
`TIMEOUT_S * TICK_HZ` rounded to an integer (D9). The direction of rounding is open, so this says no more than that the two
differ by less than 1 (notes/assumptions/17.md). -/
abbrev legalTiming (timeoutS tickHz : ℚ) (timeoutTicks : Nat) : Prop :=
  0 < timeoutS ∧ 0 < tickHz ∧ 1 ≤ timeoutTicks ∧
    (timeoutTicks : ℚ) - timeoutS * tickHz < 1 ∧ timeoutS * tickHz - (timeoutTicks : ℚ) < 1

/-- The parameters of R8. `WIRE_LEN` stands twice, once for each unit, because each unit is built with its own and only
a boot requirement makes them agree (R224, R237). No transaction names or writes a parameter (R26). -/
structure Config where
  /-- `WIRE_LEN` of the TXU, the length of each datagram it sends. -/
  txuWireLen : WireLen
  /-- `WIRE_LEN` of the RXU, the only length it accepts. -/
  rxuWireLen : WireLen
  /-- `TIMEOUT_S`, the receive timeout in seconds. R8 allows any positive value; that it is a rational number is the model's
  choice (DESIGN CHOICE, notes/assumptions/3.md). -/
  timeoutS : ℚ
  /-- `TICK_HZ`, the rate of TICK, a rational number by the model's choice (DESIGN CHOICE, notes/assumptions/3.md). -/
  tickHz : ℚ
  /-- `TIMEOUT_TICKS`, the number of TICKs without a valid frame that make the watchdog expire. -/
  timeoutTicks : Nat
  /-- `AXIS_RESET_LSX`. -/
  axisResetLsx : Byte
  /-- `AXIS_RESET_LSY`. -/
  axisResetLsy : Byte
  /-- `AXIS_RESET_RSX`. -/
  axisResetRsx : Byte
  /-- `AXIS_RESET_RSY`. -/
  axisResetRsy : Byte
  /-- `BOOST_RESET`. -/
  boostReset : Bool
  /-- `PWM_MODE`, the mode argument of the platform's startup calls (R223). -/
  pwmMode : Nat
  /-- `ACT_INIT_SERVO`, the servo duty the actuator holds before the first command. -/
  actInitServo : ServoDuty
  /-- `ACT_INIT_MOTOR`, the motor duty the actuator holds before the first command. -/
  actInitMotor : MotorDuty
  /-- R8 and D9 are in force for every build. -/
  timing : legalTiming timeoutS tickHz timeoutTicks
deriving DecidableEq, Repr

/-- The width in bits of the register `wd_count`: ceil(log2(`TIMEOUT_TICKS`)), at least 1 (R27). -/
def Config.countWidth (c : Config) : Nat := max 1 (Nat.clog 2 c.timeoutTicks)

/-- R224: both units of one link are built with the same `WIRE_LEN`. -/
abbrev Config.linked (c : Config) : Prop := c.txuWireLen = c.rxuWireLen

/-- The actuator's level before the RXU's first command, `ACT_INIT_SERVO` and `ACT_INIT_MOTOR` (R8, R28). -/
def Config.actInit (c : Config) : Command := ⟨c.actInitServo, c.actInitMotor⟩

/-! The OPEN parameters of R8 (D6, D9, D14, D23). -/

opaque Config.openTickHzNumerator : ℕ+
opaque Config.openTickHzDenominator : ℕ+
/-- Whether `TIMEOUT_S * TICK_HZ` rounds up; one answer for each value, so any rounding to a neighbouring integer is covered. -/
opaque Config.openRoundsUp : ℚ → Bool
opaque Config.openAxisResetLsx : Byte
opaque Config.openAxisResetLsy : Byte
opaque Config.openAxisResetRsx : Byte
opaque Config.openAxisResetRsy : Byte
opaque Config.openBoostReset : Bool
opaque Config.openPwmMode : Nat
opaque Config.openActInitServo : ServoDuty
opaque Config.openActInitMotor : MotorDuty

/-- `q` rounded to a neighbouring integer, and at least 1, the least legal `TIMEOUT_TICKS` (R8; notes/assumptions/17.md). -/
def roundTicks (up : Bool) (q : ℚ) : Nat := max 1 (if up then ⌈q⌉ else ⌊q⌋).toNat

theorem roundTicks_near (up : Bool) (q : ℚ) (hq : 0 < q) :
    (roundTicks up q : ℚ) - q < 1 ∧ q - (roundTicks up q : ℚ) < 1 := by
  obtain ⟨z, hz, above, below⟩ : ∃ z : Int, roundTicks up q = max 1 z.toNat ∧ (z : ℚ) - q < 1 ∧ q - (z : ℚ) < 1 := by
    cases up
    · exact ⟨⌊q⌋, rfl, by linarith [Int.floor_le q], by linarith [Int.lt_floor_add_one q]⟩
    · exact ⟨⌈q⌉, rfl, by linarith [Int.ceil_lt_add_one q], by linarith [Int.le_ceil q]⟩
  rw [hz]
  rcases Int.le_total z 0 with nonpos | nonneg
  · have : (z : ℚ) ≤ 0 := by exact_mod_cast nonpos
    rw [Int.toNat_of_nonpos nonpos]
    constructor <;> norm_num <;> linarith
  · lift z to Nat using nonneg
    rw [Int.toNat_natCast]
    rcases Nat.eq_zero_or_pos z with rfl | pos
    · constructor <;> norm_num at * <;> linarith
    · rw [max_eq_right pos]
      exact ⟨by exact_mod_cast above, by exact_mod_cast below⟩

theorem legalTiming_roundTicks (up : Bool) (timeoutS tickHz : ℚ) (hs : 0 < timeoutS) (hz : 0 < tickHz) :
    legalTiming timeoutS tickHz (roundTicks up (timeoutS * tickHz)) :=
  ⟨hs, hz, le_max_left _ _, roundTicks_near up _ (mul_pos hs hz)⟩

/-- `TICK_HZ` of this hardware: open, and positive. -/
def Config.openTickHz : ℚ := (Config.openTickHzNumerator : ℚ) / (Config.openTickHzDenominator : ℚ)

theorem Config.openTickHz_pos : 0 < Config.openTickHz :=
  div_pos (Nat.cast_pos.mpr Config.openTickHzNumerator.pos) (Nat.cast_pos.mpr Config.openTickHzDenominator.pos)

/-- The column 'value for this hardware' of R8: `WIRE_LEN` 8, `TIMEOUT_S` 1, `TIMEOUT_TICKS` from `TIMEOUT_S`
and `TICK_HZ`, and every OPEN parameter left open. -/
def Config.thisHardware : Config where
  txuWireLen := .w8
  rxuWireLen := .w8
  timeoutS := 1
  tickHz := Config.openTickHz
  timeoutTicks := roundTicks (Config.openRoundsUp (1 * Config.openTickHz)) (1 * Config.openTickHz)
  axisResetLsx := Config.openAxisResetLsx
  axisResetLsy := Config.openAxisResetLsy
  axisResetRsx := Config.openAxisResetRsx
  axisResetRsy := Config.openAxisResetRsy
  boostReset := Config.openBoostReset
  pwmMode := Config.openPwmMode
  actInitServo := Config.openActInitServo
  actInitMotor := Config.openActInitMotor
  timing := legalTiming_roundTicks _ 1 Config.openTickHz one_pos Config.openTickHz_pos

/-! The build-time constants of R9 (D24): no transaction changes one. -/

/-- `IN_LO`. -/
def inLo : Int := 0
/-- `IN_HI`. -/
def inHi : Int := 255
/-- `SERVO_OUT_LO`, the servo duty of x = 0. -/
def servoOutLo : Int := 210
/-- `SERVO_OUT_HI`, the servo duty of x = 255: below `SERVO_OUT_LO`, so the map is inverted. -/
def servoOutHi : Int := 90
/-- `MOTOR_CENTER`. -/
def motorCenter : Int := 1500
/-- `MOTOR_HALF_SPAN`. -/
def motorHalfSpan : Int := 100
/-- `BOOST_MULT_ON`. -/
def boostMultOn : Int := 5
/-- `BOOST_MULT_OFF`. -/
def boostMultOff : Int := 1
/-- `Y_INVERT`: the decoder inverts y. -/
def yInvert : Bool := true
/-- `SERVO_RANGE`, the PWM range of the SERVO channel. -/
def servoRange : Nat := 2000
/-- `MOTOR_RANGE`, the PWM range of the MOTOR channel. -/
def motorRange : Nat := 20000
/-- `PWM_HZ`, for both channels. -/
def pwmHz : Nat := 50
/-- `FAILSAFE_SERVO`. -/
def failsafeServo : ServoDuty := 0
/-- `FAILSAFE_MOTOR`. -/
def failsafeMotor : MotorDuty := 0

end Sys2Proof
end

