-- ==== Sys2Proof/Syntax.lean ====
section
/-!
DEFINITION. The closed set of input transactions (spec 30 R66 to R68): one constructor of `Instr` for each row of
spec/opcode_table.json, the transaction as it stands on a `txn` port, and the reasons of R69 for refusing one.
-/

namespace Sys2Proof

/-- The two units, each one agent (R3, R214). -/
inductive UnitId where
  | txu
  | rxu
deriving DecidableEq, Repr

/-- The transaction kinds of R67 that have a meaning. -/
inductive TxnKind where
  | event
  | batch
  | rx
  | tick
  | shutdown
  | reset
deriving DecidableEq, Repr

/-- A transaction of the opcode table. SHUTDOWN and RESET are accepted by both units, so they name the unit they are sent
to, as the prefix of a trace line does (R67, R71). -/
inductive Instr where
  /-- EVENT id 000, left-stick-X (R101). -/
  | evLsx (val : BitVec 16)
  /-- EVENT id 001, left-stick-Y (R101). -/
  | evLsy (val : BitVec 16)
  /-- EVENT id 010, right-stick-X (R101). -/
  | evRsx (val : BitVec 16)
  /-- EVENT id 011, right-stick-Y (R101). -/
  | evRsy (val : BitVec 16)
  /-- EVENT id 100, boost-button (R102). -/
  | evBoost (val : BitVec 16)
  /-- EVENT id 101, another input event (R103). -/
  | evId5 (val : BitVec 16)
  /-- EVENT id 110, another input event (R103). -/
  | evId6 (val : BitVec 16)
  /-- EVENT id 111, another input event (R103). -/
  | evId7 (val : BitVec 16)
  /-- BATCH with the transport's verdict on the send attempt (R104). -/
  | batch (sendOk : Bool)
  /-- RX with the received length and the payload `b[0..len-1]` (R120). -/
  | rx (len : BitVec 16) (payload : Datagram)
  /-- TICK (R162, R163). -/
  | tick
  /-- SHUTDOWN of one unit (R165). -/
  | shutdown (unit : UnitId)
  /-- RESET of one unit with the startup verdict (R220). -/
  | reset (unit : UnitId) (ok : Bool)
deriving DecidableEq, Repr

/-- One transaction on the `txn` port of a unit: the word, and the payload that only RX has (R29, R66). -/
structure Txn where
  unit : UnitId
  word : TxnWord
  payload : Datagram
deriving DecidableEq, Repr

/-- Why a transaction is refused (R69). Each is raised by `decode` alone; a refusal ends the run with no claim about the
hardware, so each is safe. -/
inductive Reject where
  /-- R69 (a): `kind` is 110 or 111. Raised by `decode`. Safe. -/
  | reservedKind
  /-- R69 (b): a reserved bit is not 0. Raised by `decode`. Safe. -/
  | reservedBits
  /-- R69 (c): the unit does not accept this kind. Raised by `decode`. Safe. -/
  | wrongUnit
  /-- R66: the payload is not `len` bytes, or a transaction other than RX came with one. No environment the spec describes
  produces this (notes/assumptions/9.md). Raised by `decode`. Safe. -/
  | payloadMismatch
deriving DecidableEq, Repr

/-- A line of the trace notation: one transaction, or a pseudo-transaction of R72. -/
inductive TraceLine where
  /-- A transaction of R71. -/
  | txn (i : Instr)
  /-- `TXU: SEND x, y, b`. -/
  | send (x y b : BitVec 16)
  /-- `RXU: TICK n`. -/
  | ticks (n : Nat)
  /-- `NET: DELIVER k`. -/
  | deliver (k : Nat)
  /-- `NET: DROP k`. -/
  | drop (k : Nat)
deriving DecidableEq, Repr

/-- The unit a transaction is sent to (R67). -/
def Instr.unit : Instr → UnitId
  | .evLsx _ => .txu
  | .evLsy _ => .txu
  | .evRsx _ => .txu
  | .evRsy _ => .txu
  | .evBoost _ => .txu
  | .evId5 _ => .txu
  | .evId6 _ => .txu
  | .evId7 _ => .txu
  | .batch _ => .txu
  | .rx _ _ => .rxu
  | .tick => .rxu
  | .shutdown u => u
  | .reset u _ => u

end Sys2Proof
end

