-- ==== Sys2Proof/WellFormed.lean ====
section
/-!
DEFINITION. When a transaction can stand on a port: every field fits its width by type, and an RX comes with exactly
`len` payload bytes (spec 30 R66).
-/

namespace Sys2Proof

/-- R66: the payload of RX is `len` bytes. -/
def payloadFits (len : BitVec 16) (payload : Datagram) : Bool :=
  payload.length == len.toNat

/-- The well-formed transactions. -/
def Instr.wf : Instr → Bool
  | .evLsx _ => true
  | .evLsy _ => true
  | .evRsx _ => true
  | .evRsy _ => true
  | .evBoost _ => true
  | .evId5 _ => true
  | .evId6 _ => true
  | .evId7 _ => true
  | .batch _ => true
  | .rx len payload => payloadFits len payload
  | .tick => true
  | .shutdown _ => true
  | .reset _ _ => true

end Sys2Proof
end

