-- ==== Sys2Proof/Decode.lean ====
section
/-!
DEFINITION. The transaction word (spec 30 R66 to R71): `decode`, total on every unit, word and payload and refusing by
name; `encode`, the word and payload of a transaction; the match and mask of each row of spec/opcode_table.json; and the
host's view of one table word, `decodeTableWord`.
-/

namespace Sys2Proof

/-! ## Fields of a word (R66) -/

/-- `w[23:21]`. -/
def wordKind (w : TxnWord) : BitVec 3 := w.extractLsb' 21 3
/-- `w[20:18]` of an EVENT. -/
def wordId (w : TxnWord) : BitVec 3 := w.extractLsb' 18 3
/-- The reserved field `w[17:16]` of an EVENT. -/
def wordEventReserved (w : TxnWord) : BitVec 2 := w.extractLsb' 16 2
/-- `w[15:0]`: `val` of an EVENT, `len` of an RX. -/
def wordLow16 (w : TxnWord) : BitVec 16 := w.extractLsb' 0 16
/-- The reserved field `w[20:16]` of an RX. -/
def wordRxReserved (w : TxnWord) : BitVec 5 := w.extractLsb' 16 5
/-- The reserved field `w[20:1]` of a BATCH or a RESET. -/
def wordReserved20 (w : TxnWord) : BitVec 20 := w.extractLsb' 1 20
/-- `w[0]`: `send_ok` of a BATCH, `ok` of a RESET. -/
def wordBit0 (w : TxnWord) : Bool := w.getLsbD 0
/-- The reserved field `w[20:0]` of a TICK or a SHUTDOWN. -/
def wordReserved21 (w : TxnWord) : BitVec 21 := w.extractLsb' 0 21

/-- The kinds of R67; 110 and 111 are reserved. -/
def kindOf (k : BitVec 3) : Option TxnKind :=
  match k.toNat with
  | 0 => some .event
  | 1 => some .batch
  | 2 => some .rx
  | 3 => some .tick
  | 4 => some .shutdown
  | 5 => some .reset
  | _ => none

/-- R67, column 'kind', as a number. -/
def TxnKind.number : TxnKind → Nat
  | .event => 0
  | .batch => 1
  | .rx => 2
  | .tick => 3
  | .shutdown => 4
  | .reset => 5

/-- R67, column 'accepted by'. -/
def TxnKind.acceptedBy : TxnKind → UnitId → Bool
  | .event, u => u == .txu
  | .batch, u => u == .txu
  | .rx, u => u == .rxu
  | .tick, u => u == .rxu
  | .shutdown, _ => true
  | .reset, _ => true

/-- The event identifiers of R68. -/
def eventOf (id : BitVec 3) (val : BitVec 16) : Instr :=
  match id.toNat with
  | 0 => .evLsx val
  | 1 => .evLsy val
  | 2 => .evRsx val
  | 3 => .evRsy val
  | 4 => .evBoost val
  | 5 => .evId5 val
  | 6 => .evId6 val
  | _ => .evId7 val

/-! ## The decoder -/

/-- The word of a kind other than RX: refused if a reserved bit is set or if a payload came with it (R66, R69 (b)). -/
def plainTxn (reservedClear : Bool) (payload : Datagram) (i : Instr) : Except Reject Instr :=
  if !reservedClear then .error .reservedBits
  else match payload with
    | [] => .ok i
    | _ :: _ => .error .payloadMismatch

/-- An RX word and its payload (R66, R69 (b)). -/
def rxTxn (w : TxnWord) (payload : Datagram) : Except Reject Instr :=
  if wordRxReserved w != 0 then .error .reservedBits
  else if payloadFits (wordLow16 w) payload then .ok (.rx (wordLow16 w) payload)
  else .error .payloadMismatch

/-- The fields of a word of an accepted kind (R66). -/
def decodeKind (u : UnitId) (w : TxnWord) (payload : Datagram) : TxnKind → Except Reject Instr
  | .event => plainTxn (wordEventReserved w == 0) payload (eventOf (wordId w) (wordLow16 w))
  | .batch => plainTxn (wordReserved20 w == 0) payload (.batch (wordBit0 w))
  | .rx => rxTxn w payload
  | .tick => plainTxn (wordReserved21 w == 0) payload .tick
  | .shutdown => plainTxn (wordReserved21 w == 0) payload (.shutdown u)
  | .reset => plainTxn (wordReserved20 w == 0) payload (.reset u (wordBit0 w))

/-- The transaction that unit `u` reads from a word and its payload, or why it is refused (R69, R70). Where more than one
ground of R69 holds, the first in the order kind, unit, reserved bits is named (notes/assumptions/10.md). -/
def decode (u : UnitId) (w : TxnWord) (payload : Datagram) : Except Reject Instr :=
  match kindOf (wordKind w) with
  | none => .error .reservedKind
  | some k => if k.acceptedBy u then decodeKind u w payload k else .error .wrongUnit

/-- `decode` of a transaction on a port. -/
def Txn.decode (t : Txn) : Except Reject Instr := Sys2Proof.decode t.unit t.word t.payload

/-! ## The encoder -/

/-- `{000, id, 00, val}` (R101). -/
def eventWord (id : BitVec 3) (val : BitVec 16) : TxnWord := (0b000#3 ++ id) ++ (0#2 ++ val)

/-- `{kind, 20 reserved zeros, bit}` (R66, BATCH and RESET). -/
def verdictWord (kind : BitVec 3) (bit : Bool) : TxnWord := (kind ++ 0#20) ++ BitVec.ofBool bit

/-- `{kind, 21 reserved zeros}` (R66, TICK and SHUTDOWN). -/
def bareWord (kind : BitVec 3) : TxnWord := kind ++ 0#21

/-- The word of a transaction (R66 to R68). -/
def Instr.word : Instr → TxnWord
  | .evLsx val => eventWord 0b000#3 val
  | .evLsy val => eventWord 0b001#3 val
  | .evRsx val => eventWord 0b010#3 val
  | .evRsy val => eventWord 0b011#3 val
  | .evBoost val => eventWord 0b100#3 val
  | .evId5 val => eventWord 0b101#3 val
  | .evId6 val => eventWord 0b110#3 val
  | .evId7 val => eventWord 0b111#3 val
  | .batch sendOk => verdictWord 0b001#3 sendOk
  | .rx len _ => (0b010#3 ++ 0#5) ++ len
  | .tick => bareWord 0b011#3
  | .shutdown _ => bareWord 0b100#3
  | .reset _ ok => verdictWord 0b101#3 ok

/-- The payload of a transaction: only RX has one (R66). -/
def Instr.payload : Instr → Datagram
  | .evLsx _ => []
  | .evLsy _ => []
  | .evRsx _ => []
  | .evRsy _ => []
  | .evBoost _ => []
  | .evId5 _ => []
  | .evId6 _ => []
  | .evId7 _ => []
  | .batch _ => []
  | .rx _ payload => payload
  | .tick => []
  | .shutdown _ => []
  | .reset _ _ => []

/-- The transaction as it stands on the port of its unit. -/
def encode (i : Instr) : Txn := ⟨i.unit, i.word, i.payload⟩

/-! ## The rows of spec/opcode_table.json -/

/-- A row's `match`. -/
def Instr.rowMatch : Instr → TxnWord
  | .evLsx _ => 0x000000#24
  | .evLsy _ => 0x040000#24
  | .evRsx _ => 0x080000#24
  | .evRsy _ => 0x0C0000#24
  | .evBoost _ => 0x100000#24
  | .evId5 _ => 0x140000#24
  | .evId6 _ => 0x180000#24
  | .evId7 _ => 0x1C0000#24
  | .batch _ => 0x200000#24
  | .rx _ _ => 0x400000#24
  | .tick => 0x600000#24
  | .shutdown _ => 0x800000#24
  | .reset _ _ => 0xA00000#24

/-- A row's `mask`. -/
def Instr.rowMask : Instr → TxnWord
  | .evLsx _ => 0xFF0000#24
  | .evLsy _ => 0xFF0000#24
  | .evRsx _ => 0xFF0000#24
  | .evRsy _ => 0xFF0000#24
  | .evBoost _ => 0xFF0000#24
  | .evId5 _ => 0xFF0000#24
  | .evId6 _ => 0xFF0000#24
  | .evId7 _ => 0xFF0000#24
  | .batch _ => 0xFFFFFE#24
  | .rx _ _ => 0xFF0000#24
  | .tick => 0xFFFFFF#24
  | .shutdown _ => 0xFFFFFF#24
  | .reset _ _ => 0xFFFFFE#24

/-- The thirteen rows as (`match`, `mask`), in the table's order. -/
def opcodeRows : List (TxnWord × TxnWord) :=
  [ (0x000000#24, 0xFF0000#24), (0x040000#24, 0xFF0000#24), (0x080000#24, 0xFF0000#24), (0x0C0000#24, 0xFF0000#24),
    (0x100000#24, 0xFF0000#24), (0x140000#24, 0xFF0000#24), (0x180000#24, 0xFF0000#24), (0x1C0000#24, 0xFF0000#24) ] ++
  [ (0x200000#24, 0xFFFFFE#24), (0x400000#24, 0xFF0000#24), (0x600000#24, 0xFFFFFF#24), (0x800000#24, 0xFFFFFF#24),
    (0xA00000#24, 0xFFFFFE#24) ]

/-! ## One word as the opcode table numbers it -/

/-- The bytes of `bits` from bit 0 up, `n` of them. -/
def bytesFrom : Nat → Nat → Datagram
  | 0, _ => []
  | n + 1, bits => BitVec.ofNat 8 bits :: bytesFrom n (bits >>> 8)

/-- A unit that accepts the kind of a word; the TXU where both do or where none does (notes/assumptions/7.md). -/
def preferredUnit (w : TxnWord) : UnitId :=
  match kindOf (wordKind w) with
  | some .rx => .rxu
  | some .tick => .rxu
  | _ => .txu

/-- The transaction whose bits are `w`: the word in bits 23..0, and for an RX the `len` payload bytes in the bits above,
`b[0]` in bits 31..24. Bits at or above `nbits` are 0. -/
def tableTxn (nbits w : Nat) : Txn :=
  let bits := w % 2 ^ nbits
  let word := BitVec.ofNat 24 bits
  let payload := match kindOf (wordKind word) with
    | some .rx => bytesFrom (wordLow16 word).toNat (bits >>> 24)
    | _ => []
  ⟨preferredUnit word, word, payload⟩

/-- What the decoder reads from a word of the opcode table. -/
def decodeTableWord (nbits w : Nat) : Option Instr :=
  match (tableTxn nbits w).decode with
  | .ok i => some i
  | .error _ => none

end Sys2Proof
end

