-- ==== Sys2Proof/Machine/State.lean ====
section
/-!
DEFINITION. The architectural state (spec 10), the pulses on the output ports (10 R29), the reasons a step can stop, and
the state after RESET (70 R222).
-/

namespace Sys2Proof.Machine

open Sys2Proof

/-- The mode of a unit, `txu_mode` or `rxu_mode` (R22, R23). -/
inductive Mode where
  /-- The power-on value, before the first RESET. -/
  | off
  /-- The unit's loop is running. -/
  | run
  /-- Startup failed; the unit waits for RESET. -/
  | fatal
  /-- SHUTDOWN ended the loop; the unit waits for RESET. -/
  | halt
deriving DecidableEq, Repr

/-- `wd_state`, one bit (R27, R160). -/
inductive WdState where
  /-- 0. -/
  | active
  /-- 1, the source's `timedOut`. -/
  | failsafe
deriving DecidableEq, Repr

/-- The codes of `log_out` (R201); 0, 6 and 7 are never emitted. -/
inductive LogCode where
  /-- 1, raised by RESET of the TXU (R202). -/
  | noDeviceFound
  /-- 2, raised by BATCH (R203). -/
  | sendFailed
  /-- 3, raised by RESET of the RXU (R204). -/
  | bindFailed
  /-- 4, raised by TICK at expiry (R206). -/
  | receiveTimeout
  /-- 5, raised by RX (R207). -/
  | malformedFrame
deriving DecidableEq, Repr

/-- The u3 value on `log_out` (R29, R201). -/
def LogCode.bits : LogCode → BitVec 3
  | .noDeviceFound => 1
  | .sendFailed => 2
  | .bindFailed => 3
  | .receiveTimeout => 4
  | .malformedFrame => 5

/-- The unit whose `log_out` a code leaves on (R201). -/
def LogCode.unit : LogCode → UnitId
  | .noDeviceFound => .txu
  | .sendFailed => .txu
  | .bindFailed => .rxu
  | .receiveTimeout => .rxu
  | .malformedFrame => .rxu

/-- One pulse on an event port (R29, R215). -/
inductive Pulse where
  /-- `dg_out` of the TXU: a datagram handed to the transport. -/
  | dgOut (d : Datagram)
  /-- `cmd_out` of the RXU: one actuator command. -/
  | cmdOut (c : Command)
  /-- `log_out` of the code's unit: an error or status code and nothing else. -/
  | logOut (code : LogCode)
deriving DecidableEq, Repr

/-- The TXU's registers (R21, R22). -/
structure Txu where
  /-- `txu_mode`. -/
  mode : Mode
  /-- `cs_lsx`. -/
  lsx : Byte
  /-- `cs_lsy`. -/
  lsy : Byte
  /-- `cs_rsx`. -/
  rsx : Byte
  /-- `cs_rsy`. -/
  rsy : Byte
  /-- `cs_boost`. -/
  boost : Bool
deriving DecidableEq, Repr

/-- The RXU's registers (R23, R27, R28). -/
structure Rxu where
  /-- `rxu_mode`. -/
  mode : Mode
  /-- `wd_state`. -/
  wdState : WdState
  /-- `wd_count`, an integer; its range 0..`TIMEOUT_TICKS`-1 is a field of `State`, which has the parameter. -/
  wdCount : Nat
  /-- `out_servo`. -/
  outServo : ServoDuty
  /-- `out_motor`. -/
  outMotor : MotorDuty
  /-- `out_valid`. -/
  outValid : Bool
deriving DecidableEq, Repr

/-- The whole machine: the two units with no shared register (R3), the parameters they are built with (R8), the
transactions the environment has presented and no unit has taken yet, in the order they reach the ports (R48), and every
output pulse so far, oldest first (R225). `wd_count` holds no value outside 0..`TIMEOUT_TICKS`-1, in any mode (R27). -/
structure State where
  config : Config
  txu : Txu
  rxu : Rxu
  inputs : List Txn
  outputs : List Pulse
  countInRange : rxu.wdCount < config.timeoutTicks
deriving DecidableEq, Repr

/-- Why the machine stops with a fault. Nothing in this hardware traps (R205), so no fault can be reached through `step`. -/
inductive Fault where
  /-- A read of the datagram buffer at an index outside `0..L-1`, which does not exist (R40). Raised by `execRx` on an
  instruction that is not well-formed, whose payload is shorter than its `len`; the decoder gives none (R66). Safe. -/
  | noSuchByte
deriving DecidableEq, Repr

/-- Why the machine gives a step no meaning. -/
inductive Refusal where
  /-- An instruction of the table that has no meaning here. No arm of `exec` answers it. Safe. -/
  | notModelled (mnemonic : String)
  /-- A transaction that R69 refuses. Raised by `step` with the decoder's reason. Safe. -/
  | rejected (why : Reject)
deriving DecidableEq, Repr

/-- The TXU's registers after RESET with verdict `ok` (R220, R222). -/
def Txu.afterReset (c : Config) (ok : Bool) : Txu where
  mode := if ok then .run else .fatal
  lsx := c.axisResetLsx
  lsy := c.axisResetLsy
  rsx := c.axisResetRsx
  rsy := c.axisResetRsy
  boost := c.boostReset

/-- The RXU's registers after RESET with verdict `ok` (R220, R222). -/
def Rxu.afterReset (ok : Bool) : Rxu where
  mode := if ok then .run else .fatal
  wdState := .active
  wdCount := 0
  outServo := 0
  outMotor := 0
  outValid := false

/-- 0 is in the range of `wd_count`, since `TIMEOUT_TICKS` is at least 1 (R8). -/
theorem State.zeroInRange (s : State) : 0 < s.config.timeoutTicks := s.config.timing.2.2.1

/-- RESET gives `wd_count` a value in its range. -/
theorem State.resetInRange (s : State) (ok : Bool) : (Rxu.afterReset ok).wdCount < s.config.timeoutTicks := s.zeroInRange

/-- This hardware right after RESET with `ok` = 1 at both units (R222; notes/assumptions/1.md): nothing presented, nothing
emitted. -/
def State.reset : State where
  config := Config.thisHardware
  txu := Txu.afterReset Config.thisHardware true
  rxu := Rxu.afterReset true
  inputs := []
  outputs := []
  countInRange := Config.thisHardware.timing.2.2.1

end Sys2Proof.Machine
end

