-- ==== Sys2Proof/Machine/Flags.lean ====
section
/-!
DEFINITION. The one-bit status values of spec 10 R25 and the level ports that show them: the boost truth test (40 R102),
the watchdog's expiry test (43 R162, R163), and `failsafe` (10 R29).
-/

namespace Sys2Proof.Machine

open Sys2Proof

/-- `(val != 0) ? 1 : 0`, the value EVENT id BOOST gives `cs_boost` (R102). -/
def boostOf (val : BitVec 16) : Bool := val != 0

/-- A one-bit flag as a number, `boost ? 1 : 0` (R64, R106). -/
def bit (b : Bool) : Nat := if b then 1 else 0

/-- `wd_state` as its bit: 0 = ACTIVE, 1 = FAILSAFE (R27). -/
def WdState.bit : WdState → Bool
  | .active => false
  | .failsafe => true

/-- The next TICK leaves the count below `TIMEOUT_TICKS` (R162). Otherwise it reaches `TIMEOUT_TICKS` and expires (R163),
since the count is below `TIMEOUT_TICKS` before it (R27). -/
abbrev tickStaysBelow (count timeoutTicks : Nat) : Prop := count + 1 < timeoutTicks

/-- The level port `failsafe` of the RXU, `wd_state` (R29). -/
def State.failsafe (s : State) : Bool := s.rxu.wdState.bit

end Sys2Proof.Machine
end

