-- ==== Sys2Proof/Machine/Ops.lean ====
section
/-!
DEFINITION. The named operations every transaction is written from: single-byte access to the datagram buffer (spec 20
R41), register writes and pulses (00 R12), the mode gate (10 R22, R23), raising an error (60 R201), the output mux and the
two watchdog actions (43 R161, R163, R164). The hardware has no trap (60 R205): raising an error is a log pulse and the
recovery its rule gives, and the nearest thing to a trap and its return are `wdExpire` and `wdFrame`.
-/

namespace Sys2Proof.Machine

open Sys2Proof

/-! ## The datagram buffer (R40, R41) -/

/-- A buffer of `n` bytes before any is written; SERIALIZE writes every one (R41). -/
def blank (n : Nat) : Datagram := List.replicate n 0

/-- `MemWrite(i, 1, v)`. -/
def memWrite (b : Datagram) (i : Nat) (v : Byte) : Datagram := b.set i v

/-- `MemRead(i, 1)`; there is no byte at an index outside the buffer. -/
def memRead (b : Datagram) (i : Nat) : Option Byte := b[i]?

/-- `BE(b[0..n-1])`, the big-endian value of the first `n` bytes (R13, R42). -/
def memReadBE (b : Datagram) : Nat → Option Nat
  | 0 => some 0
  | n + 1 =>
    match memReadBE b n, memRead b n with
    | some hi, some v => some (hi * 256 + v.toNat)
    | _, _ => none

/-! ## Register writes and pulses (R12) -/

/-- Write `cs_lsx`. -/
def State.writeLsx (s : State) (v : Byte) : State := { s with txu := { s.txu with lsx := v } }
/-- Write `cs_lsy`. -/
def State.writeLsy (s : State) (v : Byte) : State := { s with txu := { s.txu with lsy := v } }
/-- Write `cs_rsx`. -/
def State.writeRsx (s : State) (v : Byte) : State := { s with txu := { s.txu with rsx := v } }
/-- Write `cs_rsy`. -/
def State.writeRsy (s : State) (v : Byte) : State := { s with txu := { s.txu with rsy := v } }
/-- Write `cs_boost`. -/
def State.writeBoost (s : State) (v : Bool) : State := { s with txu := { s.txu with boost := v } }
/-- Write `txu_mode`. -/
def State.writeTxuMode (s : State) (m : Mode) : State := { s with txu := { s.txu with mode := m } }
/-- Write `rxu_mode`. -/
def State.writeRxuMode (s : State) (m : Mode) : State := { s with rxu := { s.rxu with mode := m } }
/-- Write `wd_state`. -/
def State.writeWdState (s : State) (w : WdState) : State := { s with rxu := { s.rxu with wdState := w } }
/-- Write `wd_count`, with a value the register can hold. -/
def State.writeWdCount (s : State) (n : Nat) (inRange : n < s.config.timeoutTicks) : State :=
  { s with rxu := { s.rxu with wdCount := n }, countInRange := inRange }
/-- Write `out_servo` and `out_motor`, and set `out_valid` (R28: every command). -/
def State.writeOut (s : State) (c : Command) : State :=
  { s with rxu := { s.rxu with outServo := c.servo, outMotor := c.motor, outValid := true } }
/-- Write every TXU register (R220). -/
def State.writeTxu (s : State) (t : Txu) : State := { s with txu := t }
/-- Write every RXU register (R220), `wd_count` with a value it can hold. -/
def State.writeRxu (s : State) (r : Rxu) (inRange : r.wdCount < s.config.timeoutTicks) : State :=
  { s with rxu := r, countInRange := inRange }
/-- Replace the transactions waiting at the ports. -/
def State.withInputs (s : State) (ts : List Txn) : State := { s with inputs := ts }
/-- Pulse an output port. -/
def State.emit (s : State) (p : Pulse) : State := { s with outputs := s.outputs ++ [p] }

/-- `emit_datagram(d)`. -/
def State.emitDatagram (s : State) (d : Datagram) : State := s.emit (.dgOut d)
/-- `emit_cmd(servo, motor)`. -/
def State.emitCmd (s : State) (c : Command) : State := s.emit (.cmdOut c)
/-- `raise <Name>`: the log pulse (R12, R201). The recovery is the raising rule's own. -/
def State.raise (s : State) (code : LogCode) : State := s.emit (.logOut code)

/-! ## The mode gate (R22, R23) -/

/-- The mode register of a unit. -/
def State.modeOf (s : State) : UnitId → Mode
  | .txu => s.txu.mode
  | .rxu => s.rxu.mode

/-- The effect of a transaction other than RESET: none, and no output, in a mode other than RUN. -/
def whenRunning (u : UnitId) (effect : State → Host.Outcome State Fault Refusal) (s : State) :
    Host.Outcome State Fault Refusal :=
  if s.modeOf u = .run then effect s else .next s

/-! ## The output mux and the watchdog actions (R161 to R164) -/

/-- The failsafe command, `(FAILSAFE_SERVO, FAILSAFE_MOTOR)`. -/
def failsafeCommand : Command := ⟨failsafeServo, failsafeMotor⟩

/-- MUX(sel, mapped) (R164). FAILSAFE does not look at `mapped`. -/
def mux : WdState → Command → Command
  | .failsafe, _ => failsafeCommand
  | .active, mapped => mapped

/-- The command the output registers hold. -/
def Rxu.command (r : Rxu) : Command := ⟨r.outServo, r.outMotor⟩

/-- The tail R161 and R163 share: write `out_servo`, `out_motor` and `out_valid`, and issue the command. -/
def State.issue (s : State) (c : Command) : State := (s.writeOut c).emitCmd c

/-- WD_FRAME(cmd), the watchdog action of a valid frame (R161). -/
def State.wdFrame (s : State) (cmd : Command) : State :=
  ((s.writeWdState .active).writeWdCount 0 (State.zeroInRange _)).issue (mux .active cmd)

/-- The watchdog action of an expiry (R163), entered from either state with no depth (R205). The mux does not look at the
command it is given. -/
def State.wdExpire (s : State) : State :=
  (((s.writeWdCount 0 s.zeroInRange).writeWdState .failsafe).issue (mux .failsafe s.rxu.command)).raise .receiveTimeout

/-! ## What the ports show (R29, R215, R225) -/

/-- The datagrams on `dg_out`, in order. -/
def State.datagrams (s : State) : List Datagram :=
  s.outputs.filterMap fun
    | .dgOut d => some d
    | .cmdOut _ => none
    | .logOut _ => none

/-- The commands on `cmd_out`, in order. -/
def State.commands (s : State) : List Command :=
  s.outputs.filterMap fun
    | .dgOut _ => none
    | .cmdOut c => some c
    | .logOut _ => none

/-- The codes on `log_out`, in order. -/
def State.logs (s : State) : List LogCode :=
  s.outputs.filterMap fun
    | .dgOut _ => none
    | .cmdOut _ => none
    | .logOut code => some code

/-- The duty the actuator holds: its last commanded duty (43 R165), or `ACT_INIT_*` before the first command (R28; RESET
leaves it alone, R220; notes/assumptions/11.md). -/
def State.heldDuty (s : State) : Command := s.commands.getLast?.getD s.config.actInit

end Sys2Proof.Machine
end

