-- ==== Sys2Proof/Machine/Operands.lean ====
section
/-!
DEFINITION. Operand assembly and the wire format: the axis operand of an EVENT (spec 40 R101), PACK and SERIALIZE (40
R106, R107), UNPACK (41 R122), and the level port `frame24` (10 R29).
-/

namespace Sys2Proof.Machine

open Sys2Proof

/-- `val[7:0]`, the value an axis register takes (R101). -/
def axisOf (val : BitVec 16) : Byte := val.extractLsb' 0 8

/-- PACK(x, y, boost) (R106): y goes in raw. -/
def pack (x y : Byte) (boost : Bool) : Frame :=
  BitVec.ofNat 24 (((x.toNat &&& 0xFF) <<< 8) ||| (y.toNat &&& 0xFF) ||| (bit boost <<< 16))

/-- The byte SERIALIZE writes at index `i` of `n` (R107). -/
def frameByte (f : Frame) (n i : Nat) : Byte := BitVec.ofNat 8 ((f.toNat >>> (8 * (n - 1 - i))) &&& 0xFF)

/-- SERIALIZE(f, L) (R107): the big-endian datagram of `n` bytes. -/
def serialize (f : Frame) (n : Nat) : Datagram :=
  (List.range n).foldl (fun b i => memWrite b i (frameByte f n i)) (blank n)

/-- The decoder's y: inverted, since `Y_INVERT` holds (R9, R122). -/
def decodeY (raw : Byte) : Byte := if yInvert then 255 - raw else raw

/-- The field extraction of UNPACK from the big-endian value of the datagram (R63, R122). -/
def fieldsOf (msg : Nat) : Decoded where
  boost := (msg >>> 16) &&& 1 == 1
  x := BitVec.ofNat 8 ((msg >>> 8) &&& 0xFF)
  y := decodeY (BitVec.ofNat 8 (msg &&& 0xFF))

/-- UNPACK(b, L) (R122); `none` only where the buffer has fewer than `n` bytes. -/
def unpack (b : Datagram) (n : Nat) : Option Decoded := (memReadBE b n).map fieldsOf

/-- The level port `frame24` of the TXU (R29, R108 (d)). -/
def State.frame24 (s : State) : Frame := pack s.txu.lsx s.txu.rsy s.txu.boost

end Sys2Proof.Machine
end

