-- ==== Sys2Proof/Machine/Mapper.lean ====
section
/-!
DEFINITION. The control-value mapper (spec 42): the linear map in exact form (R140, R142), the servo and motor maps (R143
to R146), and the reference evaluation of the linear map in binary floating point (R141).
-/

namespace Sys2Proof.Machine

open Sys2Proof

/-! ## The exact maps -/

/-- LINMAP(v, lo, hi, outLo, outHi) with `lo < hi`: `outLo + ((v - lo) / (hi - lo)) * (outHi - outLo)` as an exact rational,
truncated toward zero (R140, R142). -/
def linMap (v lo hi outLo outHi : Int) : Int :=
  (outLo * (hi - lo) + (v - lo) * (outHi - outLo)).tdiv (hi - lo)

/-- SERVO_MAP(x) (R143). -/
def servoMap (x : Byte) : ServoDuty := BitVec.ofInt 11 (linMap x.toNat inLo inHi servoOutLo servoOutHi)

/-- BOOST_MULT(boost) (R145). -/
def boostMult (boost : Bool) : Int := if boost then boostMultOn else boostMultOff

/-- `outLo` of the motor map (R144). -/
def motorOutLo (boost : Bool) : Int := motorCenter - motorHalfSpan * boostMult boost
/-- `outHi` of the motor map (R144). -/
def motorOutHi (boost : Bool) : Int := motorCenter + motorHalfSpan * boostMult boost

/-- MOTOR_MAP(y, boost), of the decoded y (R144). -/
def motorMap (y : Byte) (boost : Bool) : MotorDuty :=
  BitVec.ofInt 15 (linMap y.toNat inLo inHi (motorOutLo boost) (motorOutHi boost))

/-- MAP(x, y, boost) (R146). -/
def mapCommand (d : Decoded) : Command := ⟨servoMap d.x, motorMap d.y d.boost⟩

/-! ## Binary floating point (R141; notes/assumptions/13.md) -/

/-- `num / den` to the nearest natural number, ties to even. -/
def roundHalfEven (num den : Nat) : Nat :=
  let q := num / den
  let r := num % den
  if 2 * r < den then q
  else if den < 2 * r then q + 1
  else if q % 2 = 0 then q else q + 1

/-- `num / den / 2 ^ e` as a fraction of natural numbers. -/
def scaledFraction (num den : Nat) (e : Int) : Nat × Nat :=
  match e with
  | .ofNat k => (num, den * 2 ^ k)
  | .negSucc k => (num * 2 ^ (k + 1), den)

/-- The exponent at which the significand of `num / den` has `p` bits. -/
def exponentFor (p num den : Nat) : Int :=
  let e : Int := (num.log2 : Int) - (den.log2 : Int) - (p : Int)
  let f := scaledFraction num den e
  if f.1 < f.2 * 2 ^ p then e else e + 1

/-- `fl` of a rational `num / den`, `den` positive: the nearest value with a `p`-bit significand, ties to even. The exponent
is not bounded; no value of this hardware comes near the bounds of binary64 or binary32. -/
def fl (p : Nat) (num : Int) (den : Nat) : Fl :=
  if num = 0 then ⟨0, 0⟩
  else
    let e := exponentFor p num.natAbs den
    let f := scaledFraction num.natAbs den e
    ⟨num.sign * (roundHalfEven f.1 f.2 : Nat), e⟩

/-- A floating-point value as a fraction with a positive denominator. -/
def flFraction (a : Fl) : Int × Nat :=
  match a.exp with
  | .ofNat k => (a.man * 2 ^ k, 1)
  | .negSucc k => (a.man, 2 ^ (k + 1))

/-- `fl` of an integer. -/
def flInt (p : Nat) (n : Int) : Fl := fl p n 1
/-- `fl(a / b)`, `b` not zero. -/
def flDiv (p : Nat) (a b : Fl) : Fl :=
  fl p ((flFraction a).1 * (flFraction b).2 * (flFraction b).1.sign) ((flFraction a).2 * (flFraction b).1.natAbs)
/-- `fl(a * b)`. -/
def flMul (p : Nat) (a b : Fl) : Fl := fl p ((flFraction a).1 * (flFraction b).1) ((flFraction a).2 * (flFraction b).2)
/-- `fl(a + b)`. -/
def flAdd (p : Nat) (a b : Fl) : Fl :=
  fl p ((flFraction a).1 * (flFraction b).2 + (flFraction b).1 * (flFraction a).2) ((flFraction a).2 * (flFraction b).2)
/-- `trunc(a)`. -/
def flTrunc (a : Fl) : Int := (flFraction a).1.tdiv (flFraction a).2

/-- The linear map in floating point with `p`-bit significands, in the source's order of operations (R141). -/
def linMapFloat (p : Nat) (v lo hi outLo outHi : Int) : Int :=
  let t := flDiv p (flInt p (v - lo)) (flInt p (hi - lo))
  let u := flMul p t (flInt p (outHi - outLo))
  flTrunc (flAdd p (flInt p outLo) u)

/-- The significand width of IEEE 754 binary64. -/
def binary64 : Nat := 53
/-- The significand width of IEEE 754 binary32. -/
def binary32 : Nat := 24

end Sys2Proof.Machine
end

