-- ==== Sys2Proof/Machine/Decoder.lean ====
section
/-!
DEFINITION. The RXU's receive transaction (spec 41 R120): length check, UNPACK, MAP, and the watchdog's frame action.
-/

namespace Sys2Proof.Machine

open Sys2Proof

/-- A datagram of the accepted length (R120): decode, map, restart the watchdog and issue the command. The fault stands for
a buffer shorter than `len`, which no transaction has (R45, R66; notes/assumptions/9.md). -/
def acceptDatagram (len : Nat) (b : Datagram) (s : State) : Host.Outcome State Fault Refusal :=
  match unpack b len with
  | some d => .next (s.wdFrame (mapCommand d))
  | none => .fault .noSuchByte

/-- RX (R120, R121): any other length than `WIRE_LEN` is a MalformedFrame, dropped before a field is read (R207). -/
def execRx (len : BitVec 16) (payload : Datagram) (s : State) : Host.Outcome State Fault Refusal :=
  whenRunning .rxu (fun s =>
    if len.toNat = s.config.rxuWireLen.bytes then acceptDatagram len.toNat payload s
    else .next (s.raise .malformedFrame)) s

end Sys2Proof.Machine
end

