-- ==== Sys2Proof/Machine/Encoder.lean ====
section
/-!
DEFINITION. The transactions of the TXU's encoder loop (spec 40): EVENT by identifier, and BATCH. An EVENT updates
ControlState and emits nothing; a BATCH makes one send attempt and writes no register (R100).
-/

namespace Sys2Proof.Machine

open Sys2Proof

/-- EVENT LSX (R101). -/
def execEvLsx (val : BitVec 16) (s : State) : Host.Outcome State Fault Refusal :=
  whenRunning .txu (fun s => .next (s.writeLsx (axisOf val))) s

/-- EVENT LSY (R101): stored, never transmitted. -/
def execEvLsy (val : BitVec 16) (s : State) : Host.Outcome State Fault Refusal :=
  whenRunning .txu (fun s => .next (s.writeLsy (axisOf val))) s

/-- EVENT RSX (R101): stored, never transmitted. -/
def execEvRsx (val : BitVec 16) (s : State) : Host.Outcome State Fault Refusal :=
  whenRunning .txu (fun s => .next (s.writeRsx (axisOf val))) s

/-- EVENT RSY (R101). -/
def execEvRsy (val : BitVec 16) (s : State) : Host.Outcome State Fault Refusal :=
  whenRunning .txu (fun s => .next (s.writeRsy (axisOf val))) s

/-- EVENT BOOST (R102). -/
def execEvBoost (val : BitVec 16) (s : State) : Host.Outcome State Fault Refusal :=
  whenRunning .txu (fun s => .next (s.writeBoost (boostOf val))) s

/-- An EVENT with no target register: no register is written and nothing is emitted, whatever `val` is (R103, R69 (d)). -/
def ignoreEvent (_val : BitVec 16) (s : State) : State := s

/-- EVENT EV5 (R103). -/
def execEvId5 (val : BitVec 16) (s : State) : Host.Outcome State Fault Refusal :=
  whenRunning .txu (fun s => .next (ignoreEvent val s)) s

/-- EVENT EV6 (R103). -/
def execEvId6 (val : BitVec 16) (s : State) : Host.Outcome State Fault Refusal :=
  whenRunning .txu (fun s => .next (ignoreEvent val s)) s

/-- EVENT EV7 (R103). -/
def execEvId7 (val : BitVec 16) (s : State) : Host.Outcome State Fault Refusal :=
  whenRunning .txu (fun s => .next (ignoreEvent val s)) s

/-- The datagram a BATCH sends: SERIALIZE of PACK of the current ControlState (R104). -/
def State.datagram (s : State) : Datagram := serialize s.frame24 s.config.txuWireLen.bytes

/-- One send attempt (R104, R105): the transport takes the datagram, or SendFailed is raised and the datagram is dropped
(R203). -/
def sendAttempt (sendOk : Bool) (s : State) : State :=
  if sendOk then s.emitDatagram s.datagram else s.raise .sendFailed

/-- BATCH (R104). -/
def execBatch (sendOk : Bool) (s : State) : Host.Outcome State Fault Refusal :=
  whenRunning .txu (fun s => .next (sendAttempt sendOk s)) s

end Sys2Proof.Machine
end

