-- ==== Sys2Proof/Machine/Reset.lean ====
section
/-!
DEFINITION. RESET (spec 70 R220), accepted in every mode, and the power-on state before the first RESET (70 R221).
-/

namespace Sys2Proof.Machine

open Sys2Proof

/-- The registers of unit `u` after RESET with verdict `ok` (R220). -/
def resetRegisters (u : UnitId) (ok : Bool) (s : State) : State :=
  match u with
  | .txu => s.writeTxu (Txu.afterReset s.config ok)
  | .rxu => s.writeRxu (Rxu.afterReset ok) (s.resetInRange ok)

/-- The error a failed startup raises: NoDeviceFound at the TXU (R202), BindFailed at the RXU (R204). -/
def startupError : UnitId → LogCode
  | .txu => .noDeviceFound
  | .rxu => .bindFailed

/-- RESET of unit `u` (R220): no datagram and no command. -/
def execReset (u : UnitId) (ok : Bool) (s : State) : Host.Outcome State Fault Refusal :=
  .next (if ok then resetRegisters u ok s else (resetRegisters u ok s).raise (startupError u))

/-- The state at power-on: both units in mode OFF and nothing emitted. Every other register holds an unspecified value, so
this is a set of states and not one (R221; notes/assumptions/12.md). -/
abbrev State.atPowerOn (s : State) : Prop := s.txu.mode = .off ∧ s.rxu.mode = .off ∧ s.outputs = []

end Sys2Proof.Machine
end

