-- ==== Sys2Proof/Machine/Watchdog.lean ====
section
/-!
DEFINITION. TICK and SHUTDOWN (spec 43 R162, R163, R165).
-/

namespace Sys2Proof.Machine

open Sys2Proof

/-- Take one TICK: count it (R162), or expire (R163). -/
def takeTick (s : State) : State :=
  if below : tickStaysBelow s.rxu.wdCount s.config.timeoutTicks then s.writeWdCount (s.rxu.wdCount + 1) below
  else s.wdExpire

/-- TICK (R162, R163). -/
def execTick (s : State) : Host.Outcome State Fault Refusal := whenRunning .rxu (fun s => .next (takeTick s)) s

/-- End a unit's loop: its mode register is written and nothing else, and no final command is issued (R165). -/
def haltUnit (u : UnitId) (s : State) : State :=
  match u with
  | .txu => s.writeTxuMode .halt
  | .rxu => s.writeRxuMode .halt

/-- SHUTDOWN of unit `u` (R165). -/
def execShutdown (u : UnitId) (s : State) : Host.Outcome State Fault Refusal :=
  whenRunning u (fun s => .next (haltUnit u s)) s

end Sys2Proof.Machine
end

