-- ==== Sys2Proof/Machine/Dispatch.lean ====
section
/-!
DEFINITION. One arm per row of spec/opcode_table.json, in the table's order.
-/

namespace Sys2Proof.Machine

open Sys2Proof

def exec (i : Instr) (s : State) : Host.Outcome State Fault Refusal :=
  match i with
  | .evLsx val => Sys2Proof.Machine.execEvLsx val s
  | .evLsy val => Sys2Proof.Machine.execEvLsy val s
  | .evRsx val => Sys2Proof.Machine.execEvRsx val s
  | .evRsy val => Sys2Proof.Machine.execEvRsy val s
  | .evBoost val => Sys2Proof.Machine.execEvBoost val s
  | .evId5 val => Sys2Proof.Machine.execEvId5 val s
  | .evId6 val => Sys2Proof.Machine.execEvId6 val s
  | .evId7 val => Sys2Proof.Machine.execEvId7 val s
  | .batch sendOk => Sys2Proof.Machine.execBatch sendOk s
  | .rx len payload => Sys2Proof.Machine.execRx len payload s
  | .tick => Sys2Proof.Machine.execTick s
  | .shutdown u => Sys2Proof.Machine.execShutdown u s
  | .reset u ok => Sys2Proof.Machine.execReset u ok s

end Sys2Proof.Machine
end

