-- ==== Sys2Proof/Machine/Step.lean ====
section
/-!
DEFINITION. One step of the machine: the unit that the next waiting transaction is sent to takes it (spec 00 R3, 20 R48, 30
R66). There is no program counter and no fetch (10 R24).
-/

namespace Sys2Proof.Machine

open Sys2Proof

/-- Take the next transaction: run what the unit's decoder reads from it, or refuse as R69 says. With none waiting, both
units wait with all state held (R216). -/
def step (s : State) : Host.Outcome State Fault Refusal :=
  match s.inputs with
  | [] => .next s
  | t :: rest =>
    match t.decode with
    | .ok i => exec i (s.withInputs rest)
    | .error why => .refused (.rejected why)

/-- `s` with one table word as the next transaction to be taken (notes/assumptions/20.md). -/
def State.withFetchWord (s : State) (nbits w : Nat) : State := s.withInputs (tableTxn nbits w :: s.inputs)

end Sys2Proof.Machine
end

