-- ==== Sys2Proof/Machine/Driver.lean ====
section
/-!
DEFINITION. The calls of the actuator driver (spec 60 R212): the two that one command stands for (00 R12), and the six the
platform makes once before the first command, in an order the spec leaves open (70 R223).
-/

namespace Sys2Proof.Machine

open Sys2Proof

/-- The actuator channels (R212). -/
inductive Channel where
  | servo
  | motor
deriving DecidableEq, Repr

/-- A call the driver receives (R29, R212). -/
inductive DriverCall where
  | setPwmFrequency (ch : Channel) (hz : Nat)
  | setPwmRange (ch : Channel) (range : Nat)
  | setPwmMode (ch : Channel) (mode : Nat)
  | setDutyCycle (ch : Channel) (value : Nat)
deriving DecidableEq, Repr

/-- The PWM range of a channel (R9, R212). -/
def channelRange : Channel → Nat
  | .servo => servoRange
  | .motor => motorRange

/-- `emit_cmd`: `setDutyCycle(SERVO, servo)` then `setDutyCycle(MOTOR, motor)` (R12, R146). -/
def dutyCalls (c : Command) : List DriverCall :=
  [.setDutyCycle .servo c.servo.toNat, .setDutyCycle .motor c.motor.toNat]

/-- The duty calls the driver has received from the RXU, in order. -/
def State.driverCalls (s : State) : List DriverCall := s.commands.flatMap dutyCalls

/-- The six startup calls of the platform, in one order (R223). -/
def startupCalls (c : Config) : List DriverCall :=
  [.setPwmFrequency .motor pwmHz, .setPwmRange .motor motorRange, .setPwmMode .motor c.pwmMode,
    .setPwmFrequency .servo pwmHz, .setPwmRange .servo servoRange, .setPwmMode .servo c.pwmMode]

/-- The platform's boot duty is met by these calls: each of the six once, in any order (R223, D23). -/
abbrev bootedBy (c : Config) (calls : List DriverCall) : Prop := calls.Perm (startupCalls c)

end Sys2Proof.Machine
end

