-- ==== Sys2Proof/Machine/Environment.lean ====
section
/-!
DEFINITION. What the environment may do to the two ports (spec 60 R214): present any transactions in any order (20 R51, 60
R209), the pseudo-transactions of the trace notation (30 R72), the low 16 bits of an event's integer state (30 R66), and
the fixed order a build uses for inputs of one cycle (60 R209). `step` calls none of it.
-/

namespace Sys2Proof.Machine

open Sys2Proof

/-- Present transactions after those already waiting (R48). -/
def State.offer (s : State) (ts : List Txn) : State := s.withInputs (s.inputs ++ ts)

/-- `val` of an event with integer state `n`: its low 16 bits, negative values in two's complement (R66, R101, D5). -/
def eventValue (n : Int) : BitVec 16 := BitVec.ofInt 16 n

/-! ## Pseudo-transactions (R72) -/

/-- An RX transaction carrying a whole datagram (R45, R72). -/
def rxOf (d : Datagram) : Instr := .rx (BitVec.ofNat 16 d.length) d

/-- The `k`-th datagram the TXU has emitted, counting from 1 (R72); none where there is no such datagram. -/
def State.datagramAt (s : State) (k : Nat) : Option Datagram :=
  match k with
  | 0 => none
  | j + 1 => s.datagrams[j]?

/-- The transactions a line stands for, in order. DELIVER copies a datagram that has been emitted, so it can repeat one or
bring a late one; DROP produces none (R50, R72). R72 does not say what DELIVER `k` stands for where the TXU has not emitted
`k` datagrams, or `k` is 0: no transaction, by the model's choice (DESIGN CHOICE, notes/assumptions/22.md). -/
def expandLine (s : State) : TraceLine → List Instr
  | .txn i => [i]
  | .send x y b => [.evLsx x, .evRsy y, .evBoost b, .batch true]
  | .ticks n => List.replicate n .tick
  | .deliver k =>
    match s.datagramAt k with
    | some d => [rxOf d]
    | none => []
  | .drop _ => []

/-- Present what a line stands for. -/
def State.offerLine (s : State) (l : TraceLine) : State := s.offer ((expandLine s l).map encode)

/-! ## Inputs of one cycle (R209) -/

/-- The place of a transaction among those of one cycle: RESET, SHUTDOWN, then RX or EVENTs, then TICK or BATCH; one of a
reserved kind comes last (notes/assumptions/16.md). -/
def cycleRank (t : Txn) : Nat :=
  match kindOf (wordKind t.word) with
  | some .reset => 0
  | some .shutdown => 1
  | some .event => 2
  | some .rx => 2
  | some .batch => 3
  | some .tick => 3
  | none => 4

/-- The sequence a build that samples several inputs of a unit in one cycle must behave as: by rank, and in arrival order
within a rank (R209). -/
def cycleOrder (ts : List Txn) : List Txn :=
  (List.range 5).flatMap fun r => ts.filter fun t => cycleRank t == r

end Sys2Proof.Machine
end

