-- ==== Sys2Proof/Machine/Lut.lean ====
section
/-!
DEFINITION. The mapper's read-only lookup tables (spec 20 R40, 42 R147 and R148), transcribed row by row from the spec.
They are one legal way to build the mapper; the meanings use the maps of Machine/Mapper.lean, and a statement says that
every entry equals the map (R40, D13).
-/

namespace Sys2Proof.Machine

open Sys2Proof

/-- The u8 entries of the servo LUT (R147); the row label and column of the spec's table add to the index. -/
def servoLut : List (BitVec 8) :=
  [210, 209, 209, 208, 208, 207, 207, 206, 206, 205, 205, 204, 204, 203, 203, 202] ++
  [202, 202, 201, 201, 200, 200, 199, 199, 198, 198, 197, 197, 196, 196, 195, 195] ++
  [194, 194, 194, 193, 193, 192, 192, 191, 191, 190, 190, 189, 189, 188, 188, 187] ++
  [187, 186, 186, 186, 185, 185, 184, 184, 183, 183, 182, 182, 181, 181, 180, 180] ++
  [179, 179, 178, 178, 178, 177, 177, 176, 176, 175, 175, 174, 174, 173, 173, 172] ++
  [172, 171, 171, 170, 170, 170, 169, 169, 168, 168, 167, 167, 166, 166, 165, 165] ++
  [164, 164, 163, 163, 162, 162, 162, 161, 161, 160, 160, 159, 159, 158, 158, 157] ++
  [157, 156, 156, 155, 155, 154, 154, 154, 153, 153, 152, 152, 151, 151, 150, 150] ++
  [149, 149, 148, 148, 147, 147, 146, 146, 146, 145, 145, 144, 144, 143, 143, 142] ++
  [142, 141, 141, 140, 140, 139, 139, 138, 138, 138, 137, 137, 136, 136, 135, 135] ++
  [134, 134, 133, 133, 132, 132, 131, 131, 130, 130, 130, 129, 129, 128, 128, 127] ++
  [127, 126, 126, 125, 125, 124, 124, 123, 123, 122, 122, 122, 121, 121, 120, 120] ++
  [119, 119, 118, 118, 117, 117, 116, 116, 115, 115, 114, 114, 114, 113, 113, 112] ++
  [112, 111, 111, 110, 110, 109, 109, 108, 108, 107, 107, 106, 106, 106, 105, 105] ++
  [104, 104, 103, 103, 102, 102, 101, 101, 100, 100, 99, 99, 98, 98, 98, 97] ++
  [97, 96, 96, 95, 95, 94, 94, 93, 93, 92, 92, 91, 91, 90, 90, 90]

/-- The u11 entries of the motor LUT for boost = 0, index 0x000 to 0x0FF (R148). -/
def motorLutPlain : List (BitVec 11) :=
  [1400, 1400, 1401, 1402, 1403, 1403, 1404, 1405, 1406, 1407, 1407, 1408, 1409, 1410, 1410, 1411] ++
  [1412, 1413, 1414, 1414, 1415, 1416, 1417, 1418, 1418, 1419, 1420, 1421, 1421, 1422, 1423, 1424] ++
  [1425, 1425, 1426, 1427, 1428, 1429, 1429, 1430, 1431, 1432, 1432, 1433, 1434, 1435, 1436, 1436] ++
  [1437, 1438, 1439, 1440, 1440, 1441, 1442, 1443, 1443, 1444, 1445, 1446, 1447, 1447, 1448, 1449] ++
  [1450, 1450, 1451, 1452, 1453, 1454, 1454, 1455, 1456, 1457, 1458, 1458, 1459, 1460, 1461, 1461] ++
  [1462, 1463, 1464, 1465, 1465, 1466, 1467, 1468, 1469, 1469, 1470, 1471, 1472, 1472, 1473, 1474] ++
  [1475, 1476, 1476, 1477, 1478, 1479, 1480, 1480, 1481, 1482, 1483, 1483, 1484, 1485, 1486, 1487] ++
  [1487, 1488, 1489, 1490, 1490, 1491, 1492, 1493, 1494, 1494, 1495, 1496, 1497, 1498, 1498, 1499] ++
  [1500, 1501, 1501, 1502, 1503, 1504, 1505, 1505, 1506, 1507, 1508, 1509, 1509, 1510, 1511, 1512] ++
  [1512, 1513, 1514, 1515, 1516, 1516, 1517, 1518, 1519, 1520, 1520, 1521, 1522, 1523, 1523, 1524] ++
  [1525, 1526, 1527, 1527, 1528, 1529, 1530, 1530, 1531, 1532, 1533, 1534, 1534, 1535, 1536, 1537] ++
  [1538, 1538, 1539, 1540, 1541, 1541, 1542, 1543, 1544, 1545, 1545, 1546, 1547, 1548, 1549, 1549] ++
  [1550, 1551, 1552, 1552, 1553, 1554, 1555, 1556, 1556, 1557, 1558, 1559, 1560, 1560, 1561, 1562] ++
  [1563, 1563, 1564, 1565, 1566, 1567, 1567, 1568, 1569, 1570, 1570, 1571, 1572, 1573, 1574, 1574] ++
  [1575, 1576, 1577, 1578, 1578, 1579, 1580, 1581, 1581, 1582, 1583, 1584, 1585, 1585, 1586, 1587] ++
  [1588, 1589, 1589, 1590, 1591, 1592, 1592, 1593, 1594, 1595, 1596, 1596, 1597, 1598, 1599, 1600]

/-- The u11 entries of the motor LUT for boost = 1, index 0x100 to 0x1FF (R148). -/
def motorLutBoost : List (BitVec 11) :=
  [1000, 1003, 1007, 1011, 1015, 1019, 1023, 1027, 1031, 1035, 1039, 1043, 1047, 1050, 1054, 1058] ++
  [1062, 1066, 1070, 1074, 1078, 1082, 1086, 1090, 1094, 1098, 1101, 1105, 1109, 1113, 1117, 1121] ++
  [1125, 1129, 1133, 1137, 1141, 1145, 1149, 1152, 1156, 1160, 1164, 1168, 1172, 1176, 1180, 1184] ++
  [1188, 1192, 1196, 1200, 1203, 1207, 1211, 1215, 1219, 1223, 1227, 1231, 1235, 1239, 1243, 1247] ++
  [1250, 1254, 1258, 1262, 1266, 1270, 1274, 1278, 1282, 1286, 1290, 1294, 1298, 1301, 1305, 1309] ++
  [1313, 1317, 1321, 1325, 1329, 1333, 1337, 1341, 1345, 1349, 1352, 1356, 1360, 1364, 1368, 1372] ++
  [1376, 1380, 1384, 1388, 1392, 1396, 1400, 1403, 1407, 1411, 1415, 1419, 1423, 1427, 1431, 1435] ++
  [1439, 1443, 1447, 1450, 1454, 1458, 1462, 1466, 1470, 1474, 1478, 1482, 1486, 1490, 1494, 1498] ++
  [1501, 1505, 1509, 1513, 1517, 1521, 1525, 1529, 1533, 1537, 1541, 1545, 1549, 1552, 1556, 1560] ++
  [1564, 1568, 1572, 1576, 1580, 1584, 1588, 1592, 1596, 1600, 1603, 1607, 1611, 1615, 1619, 1623] ++
  [1627, 1631, 1635, 1639, 1643, 1647, 1650, 1654, 1658, 1662, 1666, 1670, 1674, 1678, 1682, 1686] ++
  [1690, 1694, 1698, 1701, 1705, 1709, 1713, 1717, 1721, 1725, 1729, 1733, 1737, 1741, 1745, 1749] ++
  [1752, 1756, 1760, 1764, 1768, 1772, 1776, 1780, 1784, 1788, 1792, 1796, 1800, 1803, 1807, 1811] ++
  [1815, 1819, 1823, 1827, 1831, 1835, 1839, 1843, 1847, 1850, 1854, 1858, 1862, 1866, 1870, 1874] ++
  [1878, 1882, 1886, 1890, 1894, 1898, 1901, 1905, 1909, 1913, 1917, 1921, 1925, 1929, 1933, 1937] ++
  [1941, 1945, 1949, 1952, 1956, 1960, 1964, 1968, 1972, 1976, 1980, 1984, 1988, 1992, 1996, 2000]

/-- The motor LUT, 512 entries (R40, R148). -/
def motorLut : List (BitVec 11) := motorLutPlain ++ motorLutBoost

/-- `{boost, y}`, the u9 address of the motor LUT (R40). -/
def motorLutAddress (y : Byte) (boost : Bool) : BitVec 9 := BitVec.ofBool boost ++ y

/-- `SERVO_LUT[x]`. -/
def servoLutRead (x : Byte) : Option (BitVec 8) := servoLut[x.toNat]?

/-- `MOTOR_LUT[{boost, y}]`. -/
def motorLutRead (y : Byte) (boost : Bool) : Option (BitVec 11) := motorLut[(motorLutAddress y boost).toNat]?

end Sys2Proof.Machine
end

