-- ==== Sys2Proof/Safety.lean ====
section
/-!
DEFINITION. What counts as a safe run (spec 10 R31, 42 R146, 43 R164 and R166, 60 R212): a run of steps, the legal commands, the invariant
of the RXU, the invariant of the output trace, and the transactions that keep the watchdog silent.
-/

namespace Sys2Proof.Machine

open Sys2Proof

/-- `k` steps of the machine, as the host runs it. -/
abbrev runSteps (k : Nat) (s : State) : Host.Outcome State Fault Refusal := Sys2Proof.core.run k s

/-- A command the mapper can give: servo 90 to 210, motor 1000 to 2000 (R146). -/
abbrev isMapped (c : Command) : Prop :=
  90 ≤ c.servo.toNat ∧ c.servo.toNat ≤ 210 ∧ 1000 ≤ c.motor.toNat ∧ c.motor.toNat ≤ 2000

/-- A command the RXU can issue: the failsafe command or a mapped one (R212). -/
abbrev isLegal (c : Command) : Prop := c = failsafeCommand ∨ isMapped c

/-- A datagram the TXU can send: `n` bytes, and every reserved bit 0 (R62, R104). -/
abbrev legalDatagram (n : Nat) (d : Datagram) : Prop :=
  d.length = n ∧ ∃ x y : Byte, ∃ boost : Bool, d = serialize (pack x y boost) n

/-- R31 (a): FAILSAFE implies that the last command issued was (0, 0). -/
abbrev Rxu.failsafeIsZero (r : Rxu) : Prop :=
  r.wdState = .failsafe → r.outServo = 0 ∧ r.outMotor = 0 ∧ r.outValid = true

/-- R31 (b). -/
abbrev Rxu.servoInRange (r : Rxu) : Prop := r.outServo = 0 ∨ (90 ≤ r.outServo.toNat ∧ r.outServo.toNat ≤ 210)

/-- R31 (c). -/
abbrev Rxu.motorInRange (r : Rxu) : Prop := r.outMotor = 0 ∨ (1000 ≤ r.outMotor.toNat ∧ r.outMotor.toNat ≤ 2000)

/-- The invariant of the RXU in mode RUN: R31 (a) to (c). The range of `wd_count` (R27) needs no place here, since no state
is outside it. -/
abbrev RxuInvariant (s : State) : Prop :=
  s.rxu.mode = .run → s.rxu.failsafeIsZero ∧ s.rxu.servoInRange ∧ s.rxu.motorInRange

/-- What the output ports have carried: only legal commands (R212) and only datagrams of the TXU's own form (R104). -/
abbrev TraceInvariant (s : State) : Prop :=
  (∀ c ∈ s.commands, isLegal c) ∧ (∀ d ∈ s.datagrams, legalDatagram s.config.txuWireLen.bytes d)

/-- From its first RESET on, while `out_valid` is set, the actuator holds what the output registers hold (R28, R165). -/
abbrev HeldDutyInvariant (s : State) : Prop :=
  s.rxu.mode ≠ .off → s.rxu.outValid = true → s.heldDuty = s.rxu.command

/-- A transaction the watchdog waits through: neither a valid frame nor a RESET or SHUTDOWN of the RXU (R166). -/
def keepsSilence (rxuWireLen : WireLen) : Instr → Bool
  | .rx len _ => len.toNat != rxuWireLen.bytes
  | .shutdown u => u == .txu
  | .reset u _ => u == .txu
  | .evLsx _ => true
  | .evLsy _ => true
  | .evRsx _ => true
  | .evRsy _ => true
  | .evBoost _ => true
  | .evId5 _ => true
  | .evId6 _ => true
  | .evId7 _ => true
  | .batch _ => true
  | .tick => true

end Sys2Proof.Machine
end

