-- ==== Sys2Proof/Certificates/Slice0/Obligations.lean ====
section
/-!
DEFINITION. The statements for the provers. Where a statement names a next state, it is written out field by field, so that
what it leaves out is unchanged. A form a mode, a length or a count shuts out of one statement is covered by another, which
is named there.
-/

open Sys2Proof Sys2Proof.Machine

/-! ## The TXU -/

/-- R101. In RUN (out of RUN: `IdleUnitIgnoresAllButReset`) an axis event stores `val[7:0]` in its own register and does
nothing else; its word is `{000, id, 00, val}`; the value is the low 8 bits of the event's integer state, negative or not;
the last of several events for one id wins; LSY and RSX do not show in the datagram. -/
def Obligations.AxisEventStoresLowByte : Prop :=
  (∀ (val : BitVec 16) (s : State), s.txu.mode = .run →
      exec (.evLsx val) s = .next { s with txu := { s.txu with lsx := val.extractLsb' 0 8 } } ∧
      exec (.evLsy val) s = .next { s with txu := { s.txu with lsy := val.extractLsb' 0 8 } } ∧
      exec (.evRsx val) s = .next { s with txu := { s.txu with rsx := val.extractLsb' 0 8 } } ∧
      exec (.evRsy val) s = .next { s with txu := { s.txu with rsy := val.extractLsb' 0 8 } }) ∧
  (∀ val : BitVec 16,
      (Instr.evLsx val).word = (0b000#3 ++ 0b000#3) ++ (0b00#2 ++ val) ∧
      (Instr.evLsy val).word = (0b000#3 ++ 0b001#3) ++ (0b00#2 ++ val) ∧
      (Instr.evRsx val).word = (0b000#3 ++ 0b010#3) ++ (0b00#2 ++ val) ∧
      (Instr.evRsy val).word = (0b000#3 ++ 0b011#3) ++ (0b00#2 ++ val)) ∧
  (∀ n : Int, (eventValue n).extractLsb' 0 8 = BitVec.ofInt 8 n) ∧
  (∀ (v w : BitVec 16) (s t : State), s.txu.mode = .run →
      (exec (.evLsx v) s = .next t → exec (.evLsx w) t = exec (.evLsx w) s) ∧
      (exec (.evLsy v) s = .next t → exec (.evLsy w) t = exec (.evLsy w) s ∧ t.datagram = s.datagram) ∧
      (exec (.evRsx v) s = .next t → exec (.evRsx w) t = exec (.evRsx w) s ∧ t.datagram = s.datagram) ∧
      (exec (.evRsy v) s = .next t → exec (.evRsy w) t = exec (.evRsy w) s)) ∧
  (Instr.evLsx 200).word = 0x0000C8#24 ∧ (200#16).extractLsb' 0 8 = 0xC8#8

/-- R102. In RUN a boost event stores whether its 16-bit value is not 0 and does nothing else; its word is
`0x100000 | val`. -/
def Obligations.BoostEventStoresTruth : Prop :=
  (∀ (val : BitVec 16) (s : State), s.txu.mode = .run →
      exec (.evBoost val) s = .next { s with txu := { s.txu with boost := decide (val ≠ 0) } }) ∧
  (∀ val : BitVec 16, (Instr.evBoost val).word = (0b000#3 ++ 0b100#3) ++ (0b00#2 ++ val) ∧
      (Instr.evBoost val).word = 0x100000#24 ||| val.setWidth 24) ∧
  (Instr.evBoost 1).word = 0x100001#24

/-- R103. An event with identifier 101, 110 or 111 writes no register and emits nothing, in RUN as out of it, whatever its
value, and the BATCH after it sends as it would have without it. -/
def Obligations.OtherEventHasNoEffect : Prop :=
  (∀ (val : BitVec 16) (s : State),
      exec (.evId5 val) s = .next s ∧ exec (.evId6 val) s = .next s ∧ exec (.evId7 val) s = .next s) ∧
  (∀ (val : BitVec 16) (sendOk : Bool) (s t : State),
      exec (.evId5 val) s = .next t ∨ exec (.evId6 val) s = .next t ∨ exec (.evId7 val) s = .next t →
      exec (.batch sendOk) t = exec (.batch sendOk) s) ∧
  (Instr.evId5 7).word = 0x140007#24

/-- R104, R203. In RUN a BATCH writes no register. With `send_ok` = 1 it hands SERIALIZE(PACK(`cs_lsx`, `cs_rsy`,
`cs_boost`), `WIRE_LEN`) to the transport, a datagram of `WIRE_LEN` bytes whose reserved bytes and bits are 0; with
`send_ok` = 0 it raises SendFailed and the datagram is dropped. A BATCH right after a BATCH does the same again. -/
def Obligations.BatchMakesOneSendAttempt : Prop :=
  (∀ s : State, s.txu.mode = .run →
      exec (.batch true) s = .next { s with outputs := s.outputs ++
        [Pulse.dgOut (serialize (pack s.txu.lsx s.txu.rsy s.txu.boost) s.config.txuWireLen.bytes)] } ∧
      exec (.batch false) s = .next { s with outputs := s.outputs ++ [Pulse.logOut .sendFailed] }) ∧
  (∀ (x y : Byte) (boost : Bool) (w : WireLen),
      (serialize (pack x y boost) w.bytes).length = w.bytes ∧
      serialize (pack x y boost) w.bytes =
        List.replicate (w.bytes - 3) 0 ++ [(if boost then 1 else 0), x, y]) ∧
  (∀ (first : Bool) (s t : State), s.txu.mode = .run → exec (.batch first) s = .next t →
      exec (.batch true) t = .next { t with outputs := t.outputs ++ [Pulse.dgOut s.datagram] }) ∧
  (Instr.batch true).word = 0x200001#24 ∧ (Instr.batch false).word = 0x200000#24

/-- R105: one send attempt per BATCH and none at any other time. Whatever the transaction and the mode, `dg_out` is as
before or carries one datagram more, and then the transaction was a BATCH in RUN that the transport accepted. -/
def Obligations.OnlyBatchEmitsDatagrams : Prop :=
  ∀ (i : Instr) (s t : State), exec i s = .next t →
    t.datagrams = s.datagrams ∨
      (i = .batch true ∧ s.txu.mode = .run ∧ t.datagrams = s.datagrams ++ [s.datagram])

/-- R106. PACK is the concatenation `{7'b0, boost, x, y}`, at most 0x01FFFF, with y raw. -/
def Obligations.PackConcatenatesFields : Prop :=
  (∀ (x y : Byte) (boost : Bool),
      (pack x y boost).toNat = (x.toNat <<< 8 ||| y.toNat ||| (if boost then 1 else 0) <<< 16) ∧
      pack x y boost = (0#7 ++ BitVec.ofBool boost) ++ (x ++ y) ∧
      (pack x y boost).extractLsb' 17 7 = 0 ∧
      (pack x y boost).toNat ≤ 0x01FFFF) ∧
  pack 255 255 true = 0x01FFFF#24 ∧ pack 255 0 false = 0x00FF00#24 ∧
  (∀ (s : State) (a b : Byte), State.frame24 { s with txu := { s.txu with lsy := a, rsx := b } } = s.frame24)

/-- R107. SERIALIZE writes `L` bytes, byte `i` being `(f >> (8 * (L-1-i))) & 0xFF`, for both wire lengths. -/
def Obligations.SerializeIsBigEndian : Prop :=
  (∀ (f : Frame) (w : WireLen),
      (serialize f w.bytes).length = w.bytes ∧
      ∀ i, i < w.bytes → memRead (serialize f w.bytes) i =
        some (BitVec.ofNat 8 ((f.toNat >>> (8 * (w.bytes - 1 - i))) &&& 0xFF))) ∧
  (∀ (f : Frame) (i : Nat), i < 5 → memRead (serialize f 8) i = some 0) ∧
  (∀ (x y : Byte) (boost : Bool), memRead (serialize (pack x y boost) 8) 5 = some (if boost then 1 else 0)) ∧
  serialize 0x01127F#24 8 = [0x00, 0x00, 0x00, 0x00, 0x00, 0x01, 0x12, 0x7F] ∧
  serialize 0x01127F#24 3 = [0x01, 0x12, 0x7F]

/-- R108. PACK is injective; SERIALIZE is injective for each length; the datagram of a BATCH depends only on `cs_lsx`,
`cs_rsy`, `cs_boost` and `WIRE_LEN`; `frame24` is PACK of them. -/
def Obligations.EncoderIsInjective : Prop :=
  (∀ (x y x' y' : Byte) (boost boost' : Bool), pack x y boost = pack x' y' boost' → x = x' ∧ y = y' ∧ boost = boost') ∧
  (∀ (f g : Frame) (w : WireLen), serialize f w.bytes = serialize g w.bytes → f = g) ∧
  (∀ s t s' t' : State, s.txu.mode = .run → t.txu.mode = .run →
      s.txu.lsx = t.txu.lsx → s.txu.rsy = t.txu.rsy → s.txu.boost = t.txu.boost →
      s.config.txuWireLen = t.config.txuWireLen → s.datagrams = t.datagrams →
      exec (.batch true) s = .next s' → exec (.batch true) t = .next t' → s'.datagrams = t'.datagrams) ∧
  (∀ s : State, s.frame24 = pack s.txu.lsx s.txu.rsy s.txu.boost)

/-! ## The RXU's decoder and mapper -/

/-- R122, R123. UNPACK of any buffer of `WIRE_LEN` bytes succeeds: boost is bit 0 of the third byte from the end, x the
next and y is 255 less the last; every other bit is ignored, the bytes before them too. -/
def Obligations.UnpackReadsThreeBytes : Prop :=
  (∀ (w : WireLen) (before : Datagram) (f2 f1 f0 : Byte), before.length + 3 = w.bytes →
      unpack (before ++ [f2, f1, f0]) w.bytes = some ⟨f2.getLsbD 0, f1, 255 - f0⟩) ∧
  (∀ (w : WireLen) (b : Datagram), b.length = w.bytes →
      ∃ msg, memReadBE b w.bytes = some msg ∧
        unpack b w.bytes = some ⟨msg / 2 ^ 16 % 2 == 1, BitVec.ofNat 8 (msg / 2 ^ 8), 255 - BitVec.ofNat 8 msg⟩) ∧
  unpack [0x00, 0x00, 0x00, 0x00, 0x00, 0x01, 0x12, 0x7F] 8 = some ⟨true, 0x12, 0x80⟩

/-- R124, R125. UNPACK after SERIALIZE after PACK gives boost and x back and y inverted, at both wire lengths. -/
def Obligations.UnpackOfPackInvertsY : Prop :=
  (∀ (x y : Byte) (boost : Bool) (w : WireLen),
      unpack (serialize (pack x y boost) w.bytes) w.bytes = some ⟨boost, x, 255 - y⟩) ∧
  (∀ (x : Byte) (boost : Bool) (w : WireLen),
      (unpack (serialize (pack x 0 boost) w.bytes) w.bytes).map (·.y) = some 255 ∧
      (unpack (serialize (pack x 255 boost) w.bytes) w.bytes).map (·.y) = some 0)

/-- R120, R161. In RUN, from ACTIVE or FAILSAFE and whatever the count, an RX of `WIRE_LEN` bytes sets ACTIVE, restarts the
count, writes the mapped command to the output registers and issues it, in the same transaction, and writes nothing else.
That command is never (0, 0). (Another length: `RxOfWrongLengthIsDropped`.) -/
def Obligations.RxAppliesMappedCommand : Prop :=
  ∀ (len : BitVec 16) (before : Datagram) (f2 f1 f0 : Byte) (s : State),
    s.rxu.mode = .run → len.toNat = s.config.rxuWireLen.bytes → before.length + 3 = s.config.rxuWireLen.bytes →
    exec (.rx len (before ++ [f2, f1, f0])) s = .next { s with
      rxu := { s.rxu with
               wdState := .active, wdCount := 0, outServo := servoMap f1,
               outMotor := motorMap (255 - f0) (f2.getLsbD 0), outValid := true }
      countInRange := s.zeroInRange
      outputs := s.outputs ++ [Pulse.cmdOut ⟨servoMap f1, motorMap (255 - f0) (f2.getLsbD 0)⟩] } ∧
    (⟨servoMap f1, motorMap (255 - f0) (f2.getLsbD 0)⟩ : Command) ≠ ⟨0, 0⟩

/-- R121, R207. In RUN an RX of any other length is dropped: MalformedFrame is logged and no register is written, so the
watchdog is not restarted, and no command is issued. The payload is not read. -/
def Obligations.RxOfWrongLengthIsDropped : Prop :=
  ∀ (len : BitVec 16) (payload : Datagram) (s : State),
    s.rxu.mode = .run → len.toNat ≠ s.config.rxuWireLen.bytes →
    exec (.rx len payload) s = .next { s with outputs := s.outputs ++ [Pulse.logOut .malformedFrame] }

/-- R143. The servo map is `floor((53550 - 120 * x) / 255)`, within [90, 210], non-increasing, with 121 values. -/
def Obligations.ServoMapValues : Prop :=
  (∀ x : Byte, (servoMap x).toNat = (53550 - 120 * x.toNat) / 255 ∧
      90 ≤ (servoMap x).toNat ∧ (servoMap x).toNat ≤ 210) ∧
  servoMap 0 = 210 ∧ servoMap 255 = 90 ∧ servoMap 254 = 90 ∧ servoMap 1 = 209 ∧ servoMap 2 = 209 ∧ servoMap 128 = 149 ∧
  (∀ x : Byte, x ≠ 255 → (servoMap (x + 1)).toNat ≤ (servoMap x).toNat) ∧
  ((List.range 256).map fun n => servoMap (BitVec.ofNat 8 n)).eraseDups.length = 121

/-- R144, R145. The motor map of the decoded y, without and with boost. -/
def Obligations.MotorMapValues : Prop :=
  boostMult true = 5 ∧ boostMult false = 1 ∧
  (∀ y : Byte, (motorMap y false).toNat = (357000 + 200 * y.toNat) / 255 ∧
      1400 ≤ (motorMap y false).toNat ∧ (motorMap y false).toNat ≤ 1600 ∧
      (motorMap y true).toNat = (255000 + 1000 * y.toNat) / 255 ∧
      1000 ≤ (motorMap y true).toNat ∧ (motorMap y true).toNat ≤ 2000) ∧
  (motorMap 0 false = 1400 ∧ motorMap 0 true = 1000 ∧ motorMap 255 false = 1600 ∧ motorMap 255 true = 2000) ∧
  (motorMap 127 false = 1499 ∧ motorMap 127 true = 1498 ∧ motorMap 128 false = 1500 ∧ motorMap 128 true = 1501) ∧
  (∀ y : Byte, motorMap y true ≠ 1500 ∧ (motorMap y false = 1500 ↔ y = 128)) ∧
  (∀ y : Byte, y ≠ 255 → (motorMap y false).toNat ≤ (motorMap (y + 1) false).toNat ∧
      (motorMap y true).toNat < (motorMap (y + 1) true).toNat) ∧
  ((List.range 256).map fun n => motorMap (BitVec.ofNat 8 n) false).eraseDups.length = 201

/-- R146, R212. MAP pairs the two maps, stays inside the mapped ranges and inside the channels' PWM ranges, and is never the
failsafe command. -/
def Obligations.MapCommandIsInRange : Prop :=
  ∀ d : Decoded, mapCommand d = ⟨servoMap d.x, motorMap d.y d.boost⟩ ∧ isMapped (mapCommand d) ∧
    (mapCommand d).servo.toNat ≤ channelRange .servo ∧ (mapCommand d).motor.toNat ≤ channelRange .motor ∧
    mapCommand d ≠ failsafeCommand

/-- R147. Every entry of the servo table as the spec prints it equals the servo map; the table has 256 entries, which sum to
38280. -/
def Obligations.ServoTableEqualsMap : Prop :=
  servoLut.length = 256 ∧ (servoLut.map BitVec.toNat).sum = 38280 ∧
    ∀ x : Byte, (servoLutRead x).map BitVec.toNat = some (servoMap x).toNat

/-- R148. Every entry of the motor table as the spec prints it equals the motor map; each half sums to 383875. -/
def Obligations.MotorTableEqualsMap : Prop :=
  motorLut.length = 512 ∧ (motorLutPlain.map BitVec.toNat).sum = 383875 ∧ (motorLutBoost.map BitVec.toNat).sum = 383875 ∧
    ∀ y : Byte, (motorLutRead y false).map BitVec.toNat = some (motorMap y false).toNat ∧
      (motorLutRead y true).map BitVec.toNat = some (motorMap y true).toNat

/-- R142. On every input of this hardware the binary64 evaluation of R141 and the binary32 one give the exact integer form,
and no numerator is negative. The binary formats are the model's own (notes/assumptions/13.md). -/
def Obligations.FloatingPointAgreesWithExactMap : Prop :=
  ∀ v : Byte,
    (linMapFloat binary64 v.toNat 0 255 210 90 = (210 * 255 + (v.toNat : Int) * (90 - 210)) / 255 ∧
      linMapFloat binary32 v.toNat 0 255 210 90 = (210 * 255 + (v.toNat : Int) * (90 - 210)) / 255 ∧
      linMap v.toNat 0 255 210 90 = (210 * 255 + (v.toNat : Int) * (90 - 210)) / 255 ∧
      (0 : Int) ≤ 210 * 255 + (v.toNat : Int) * (90 - 210)) ∧
    (linMapFloat binary64 v.toNat 0 255 1400 1600 = (1400 * 255 + (v.toNat : Int) * (1600 - 1400)) / 255 ∧
      linMapFloat binary32 v.toNat 0 255 1400 1600 = (1400 * 255 + (v.toNat : Int) * (1600 - 1400)) / 255 ∧
      linMap v.toNat 0 255 1400 1600 = (1400 * 255 + (v.toNat : Int) * (1600 - 1400)) / 255) ∧
    (linMapFloat binary64 v.toNat 0 255 1000 2000 = (1000 * 255 + (v.toNat : Int) * (2000 - 1000)) / 255 ∧
      linMapFloat binary32 v.toNat 0 255 1000 2000 = (1000 * 255 + (v.toNat : Int) * (2000 - 1000)) / 255 ∧
      linMap v.toNat 0 255 1000 2000 = (1000 * 255 + (v.toNat : Int) * (2000 - 1000)) / 255)

/-- R149. The laws of the mapper: the servo's endpoints and order, the motor's centre, the boost spread, that the command of
an RX depends on the datagram alone, and the range without boost. -/
def Obligations.MapperLaws : Prop :=
  (servoMap 0 = 210 ∧ servoMap 255 = 90 ∧ ∀ x : Byte, x ≠ 255 → (servoMap (x + 1)).toNat ≤ (servoMap x).toNat) ∧
  (motorMap 128 false = 1500 ∧ motorMap 128 true = 1501) ∧
  ((motorMap 255 false).toNat - (motorMap 0 false).toNat = 200 ∧
    (motorMap 255 true).toNat - (motorMap 0 true).toNat = 1000) ∧
  (∀ (len : BitVec 16) (b : Datagram) (s t s' t' : State), s.rxu.mode = .run → t.rxu.mode = .run →
      s.config.rxuWireLen = t.config.rxuWireLen → len.toNat = s.config.rxuWireLen.bytes →
      exec (.rx len b) s = .next s' → exec (.rx len b) t = .next t' →
      ∃ c, s'.commands = s.commands ++ [c] ∧ t'.commands = t.commands ++ [c]) ∧
  (∀ y : Byte, 1400 ≤ (motorMap y false).toNat ∧ (motorMap y false).toNat ≤ 1600)

/-! ## The watchdog and the mux -/

/-- R162. In RUN a TICK that leaves the count below `TIMEOUT_TICKS` adds 1 to it and does nothing else; with
`TIMEOUT_TICKS` = 1 no count meets this case. -/
def Obligations.TickCountsBelowTimeout : Prop :=
  (∀ (s : State) (below : s.rxu.wdCount + 1 < s.config.timeoutTicks), s.rxu.mode = .run →
      exec .tick s = .next { s with rxu := { s.rxu with wdCount := s.rxu.wdCount + 1 }, countInRange := below }) ∧
  (∀ s : State, s.config.timeoutTicks = 1 → ¬ s.rxu.wdCount + 1 < s.config.timeoutTicks) ∧
  Instr.tick.word = 0x600000#24

/-- R163. In RUN, from ACTIVE or FAILSAFE, a TICK that brings the count to `TIMEOUT_TICKS` restarts it, enters FAILSAFE,
issues (0, 0) and logs ReceiveTimeout. That the command stands before the log code in `outputs`, which holds the pulses of
both ports, is the model's reading (notes/assumptions/6.md). -/
def Obligations.TickExpiresAtTimeout : Prop :=
  (∀ s : State, s.rxu.mode = .run → s.rxu.wdCount + 1 = s.config.timeoutTicks →
      exec .tick s = .next { s with
        rxu := { s.rxu with wdState := .failsafe, wdCount := 0, outServo := 0, outMotor := 0, outValid := true }
        countInRange := s.zeroInRange
        outputs := s.outputs ++ [Pulse.cmdOut ⟨0, 0⟩, Pulse.logOut .receiveTimeout] }) ∧
  Instr.tick.word = 0x600000#24

/-- R164. The mux gives (0, 0) in FAILSAFE and the mapped command in ACTIVE, the select being the state the transaction
leaves: whatever the transaction, a command it issues is mapped if it leaves ACTIVE and (0, 0) if it leaves FAILSAFE. -/
def Obligations.MuxFollowsWatchdogState : Prop :=
  (∀ c : Command, mux .failsafe c = ⟨0, 0⟩ ∧ mux .active c = c) ∧
  (∀ (i : Instr) (s t : State), exec i s = .next t → t.commands ≠ s.commands →
      (t.rxu.wdState = .active ∧ ∃ d, t.commands = s.commands ++ [mapCommand d]) ∨
      (t.rxu.wdState = .failsafe ∧ t.commands = s.commands ++ [⟨0, 0⟩]))

/-- R160. FAILSAFE is entered only by a TICK in RUN that brings the count to `TIMEOUT_TICKS`, and left only by a valid frame
in RUN or by RESET of the RXU; the `failsafe` port shows it (R29). -/
def Obligations.WatchdogStateChangesOnlyAsTabled : Prop :=
  ∀ (i : Instr) (s t : State), exec i s = .next t →
    (s.rxu.wdState = .active → t.rxu.wdState = .failsafe →
      i = .tick ∧ s.rxu.mode = .run ∧ s.rxu.wdCount + 1 = s.config.timeoutTicks) ∧
    (s.rxu.wdState = .failsafe → t.rxu.wdState = .active →
      (∃ ok, i = .reset .rxu ok) ∨
        (s.rxu.mode = .run ∧ ∃ len b, i = .rx len b ∧ len.toNat = s.config.rxuWireLen.bytes)) ∧
    (t.failsafe = true ↔ t.rxu.wdState = .failsafe)

/-- R166. Start with a valid frame in RUN, or with RESET `ok`; follow it with transactions of either unit among which the
RXU gets no valid frame, no RESET and no SHUTDOWN, `TIMEOUT_TICKS` TICKs in all, the last transaction being the last of
them. Then the run up to that last TICK issues the frame's own command, if it began with a frame, and nothing else; the last
TICK issues (0, 0) and leaves FAILSAFE. -/
def Obligations.FailsafeTriggersAtTimeout : Prop :=
  ∀ (s : State) (start : Instr) (first : List Command) (is : List Instr) (rest : List Txn),
    ((start = .reset .rxu true ∧ first = []) ∨
      (s.rxu.mode = .run ∧ ∃ len b d, start = .rx len b ∧ len.toNat = s.config.rxuWireLen.bytes ∧
        b.length = len.toNat ∧ unpack b len.toNat = some d ∧ first = [mapCommand d])) →
    (∀ i ∈ is, i.wf = true ∧ keepsSilence s.config.rxuWireLen i = true) →
    is.count .tick = s.config.timeoutTicks → is.getLast? = some .tick →
    s.inputs = (start :: is).map encode ++ rest →
    ∃ u t, runSteps is.length s = .next u ∧ u.commands = s.commands ++ first ∧ u.inputs = encode .tick :: rest ∧
      step u = .next t ∧ runSteps (is.length + 1) s = .next t ∧ t.inputs = rest ∧
      t.commands = s.commands ++ first ++ [⟨0, 0⟩] ∧
      t.rxu.mode = .run ∧ t.rxu.wdState = .failsafe ∧ t.rxu.wdCount = 0

/-- R167. After any number of expiries the first valid frame issues its mapped command, never (0, 0), in its own
transaction. -/
def Obligations.FirstFrameEndsFailsafe : Prop :=
  ∀ (len : BitVec 16) (b : Datagram) (s : State),
    s.rxu.mode = .run → s.rxu.wdState = .failsafe → len.toNat = s.config.rxuWireLen.bytes → b.length = len.toNat →
    ∃ d t, unpack b len.toNat = some d ∧ exec (.rx len b) s = .next t ∧
      t.commands = s.commands ++ [mapCommand d] ∧ mapCommand d ≠ ⟨0, 0⟩ ∧ t.rxu.wdState = .active

/-- R168, with the model's reading that TICK number `k` after a valid frame comes at time `t0 + k / TICK_HZ`, where the
frame's own time `frameTime` lies in the tick period that begins at `t0`. With `TIMEOUT_TICKS` TICKs after it and nothing else,
no command is issued before the last of them and (0, 0) at it, later than `frameTime + (TIMEOUT_TICKS - 1) / TICK_HZ` and no
later than `frameTime + TIMEOUT_TICKS / TICK_HZ`. -/
def Obligations.FailsafeLatencyBound : Prop :=
  ∀ (s : State) (t0 frameTime : ℚ) (rest : List Txn),
    t0 ≤ frameTime → frameTime < t0 + 1 / s.config.tickHz →
    s.rxu.mode = .run → s.rxu.wdCount = 0 →
    s.inputs = List.replicate s.config.timeoutTicks (encode .tick) ++ rest →
    (∀ k, k < s.config.timeoutTicks → ∃ u, runSteps k s = .next u ∧ u.commands = s.commands) ∧
    (∃ u, runSteps s.config.timeoutTicks s = .next u ∧ u.commands = s.commands ++ [⟨0, 0⟩]) ∧
    frameTime + ((s.config.timeoutTicks : ℚ) - 1) / s.config.tickHz < t0 + (s.config.timeoutTicks : ℚ) / s.config.tickHz ∧
    t0 + (s.config.timeoutTicks : ℚ) / s.config.tickHz ≤ frameTime + (s.config.timeoutTicks : ℚ) / s.config.tickHz

/-! ## Modes, SHUTDOWN and RESET -/

/-- R165. In RUN, from any watchdog state, SHUTDOWN writes HALT to the mode register of the unit it is sent to and nothing
else, and issues no command. So the actuator keeps what it held: what the output registers hold if `out_valid` is set (from
a state where that is so, `HeldDutyInvariant`), and `ACT_INIT_*` if there was no command. After it only RESET has an
effect. That the held duty is the last command of the run, across a RESET too, and `ACT_INIT_*` only where there was none is
the model's reading (notes/assumptions/11.md). -/
def Obligations.ShutdownHaltsOneUnit : Prop :=
  (∀ s : State, s.txu.mode = .run → exec (.shutdown .txu) s = .next { s with txu := { s.txu with mode := .halt } }) ∧
  (∀ s : State, s.rxu.mode = .run → exec (.shutdown .rxu) s = .next { s with rxu := { s.rxu with mode := .halt } }) ∧
  (∀ (u : UnitId) (s t : State), exec (.shutdown u) s = .next t →
      t.outputs = s.outputs ∧ t.heldDuty = s.heldDuty ∧
      (HeldDutyInvariant s → s.rxu.mode ≠ .off → s.rxu.outValid = true → t.heldDuty = ⟨t.rxu.outServo, t.rxu.outMotor⟩) ∧
      (s.commands = [] → t.heldDuty = ⟨t.config.actInitServo, t.config.actInitMotor⟩)) ∧
  (∀ (i : Instr) (s t : State), s.modeOf i.unit = .run → exec (.shutdown i.unit) s = .next t →
      (∀ u ok, i ≠ .reset u ok) → exec i t = .next t) ∧
  (∀ u : UnitId, (Instr.shutdown u).word = 0x800000#24)

/-- R220, R222. RESET in every mode gives every register of the unit its reset value, the mode RUN with `ok` = 1 and FATAL
with `ok` = 0, and raises NoDeviceFound or BindFailed with `ok` = 0; it emits no datagram and no command. -/
def Obligations.ResetWritesEveryRegister : Prop :=
  (∀ s : State,
      exec (.reset .txu true) s = .next { s with
        txu := ⟨.run, s.config.axisResetLsx, s.config.axisResetLsy, s.config.axisResetRsx, s.config.axisResetRsy,
          s.config.boostReset⟩ } ∧
      exec (.reset .txu false) s = .next { s with
        txu := ⟨.fatal, s.config.axisResetLsx, s.config.axisResetLsy, s.config.axisResetRsx, s.config.axisResetRsy,
          s.config.boostReset⟩
        outputs := s.outputs ++ [Pulse.logOut .noDeviceFound] } ∧
      exec (.reset .rxu true) s = .next { s with
        rxu := ⟨.run, .active, 0, 0, 0, false⟩, countInRange := s.zeroInRange } ∧
      exec (.reset .rxu false) s = .next { s with
        rxu := ⟨.fatal, .active, 0, 0, 0, false⟩
        countInRange := s.zeroInRange
        outputs := s.outputs ++ [Pulse.logOut .bindFailed] }) ∧
  (∀ u : UnitId, (Instr.reset u true).word = 0xA00001#24 ∧ (Instr.reset u false).word = 0xA00000#24)

/-- R22, R23. In OFF, FATAL or HALT every transaction of a unit other than RESET has no effect and no output. -/
def Obligations.IdleUnitIgnoresAllButReset : Prop :=
  ∀ (i : Instr) (s : State), s.modeOf i.unit ≠ .run → (∀ u ok, i ≠ .reset u ok) → exec i s = .next s

/-- R22, R23, R165, R220. A mode register changes only by SHUTDOWN of its unit, from RUN to HALT, and by RESET of its unit,
to RUN or FATAL; so only RESET leaves OFF, FATAL or HALT, and nothing enters OFF. -/
def Obligations.ModeChangesOnlyByShutdownAndReset : Prop :=
  ∀ (i : Instr) (s t : State) (u : UnitId), exec i s = .next t →
    t.modeOf u = s.modeOf u ∨
      (i = .shutdown u ∧ s.modeOf u = .run ∧ t.modeOf u = .halt) ∨
      (∃ ok, i = .reset u ok ∧ t.modeOf u = if ok then .run else .fatal)

/-- R221, R222. From any state at power-on, whatever its registers hold, RESET `ok` of both units gives this hardware's
reset state. That `State.reset` is the state after both units' RESET is the model's reading (notes/assumptions/1.md). -/
def Obligations.ResetFromPowerOnGivesResetState : Prop :=
  ∀ s : State, s.atPowerOn → s.config = Config.thisHardware → s.inputs = [encode (.reset .txu true), encode (.reset .rxu true)] →
    runSteps 2 s = .next State.reset

/-- R235. After TXU RESET `ok` the first BATCH sends the reset values of the axes and of boost. -/
def Obligations.FirstDatagramCarriesResetValues : Prop :=
  ∀ (s : State) (rest : List Txn), s.inputs = encode (.reset .txu true) :: encode (.batch true) :: rest →
    ∃ t, runSteps 2 s = .next t ∧ t.datagrams = s.datagrams ++
      [serialize (pack s.config.axisResetLsx s.config.axisResetRsy s.config.boostReset) s.config.txuWireLen.bytes]

/-! ## Errors -/

/-- R200 to R207. Whatever the transaction, `log_out` is as before or carries one code more, the code that only this
transaction raises and only under its one condition; the codes are 1 to 5. -/
def Obligations.ErrorsRaisedOnlyByTheirTransaction : Prop :=
  (∀ (i : Instr) (s t : State), exec i s = .next t →
      t.logs = s.logs ∨
      (i = .reset .txu false ∧ t.txu.mode = .fatal ∧ t.logs = s.logs ++ [LogCode.noDeviceFound]) ∨
      (i = .batch false ∧ s.txu.mode = .run ∧ t.txu = s.txu ∧ t.logs = s.logs ++ [LogCode.sendFailed]) ∨
      (i = .reset .rxu false ∧ t.rxu.mode = .fatal ∧ t.logs = s.logs ++ [LogCode.bindFailed]) ∨
      (i = .tick ∧ s.rxu.mode = .run ∧ s.rxu.wdCount + 1 = s.config.timeoutTicks ∧ t.rxu.wdState = .failsafe ∧
        t.logs = s.logs ++ [LogCode.receiveTimeout]) ∨
      (∃ len b, i = .rx len b ∧ s.rxu.mode = .run ∧ len.toNat ≠ s.config.rxuWireLen.bytes ∧ t.rxu = s.rxu ∧
        t.logs = s.logs ++ [LogCode.malformedFrame])) ∧
  (LogCode.bits .noDeviceFound = 1 ∧ LogCode.bits .sendFailed = 2 ∧ LogCode.bits .bindFailed = 3 ∧
    LogCode.bits .receiveTimeout = 4 ∧ LogCode.bits .malformedFrame = 5)

/-- R205. Nothing traps: every well-formed transaction, in every state of the machine, answers a next state, and no step
ends in a fault. -/
def Obligations.EveryTransactionCompletes : Prop :=
  (∀ (i : Instr) (s : State), i.wf = true → ∃ t, exec i s = .next t) ∧ (∀ (s : State) (f : Fault), step s ≠ .fault f)

/-! ## Frames -/

/-- R20, R101 to R103, R165. What an EVENT leaves unchanged, in RUN or not: the RXU, the parameters, the waiting
transactions, every pulse so far and every register of the TXU but the one of its own identifier. -/
def Obligations.FrameOfEvents : Prop :=
  ∀ (val : BitVec 16) (i : Instr) (s t : State),
    i ∈ [Instr.evLsx val, .evLsy val, .evRsx val, .evRsy val, .evBoost val, .evId5 val, .evId6 val, .evId7 val] →
    exec i s = .next t →
    t.rxu = s.rxu ∧ t.config = s.config ∧ t.inputs = s.inputs ∧ t.outputs = s.outputs ∧ t.txu.mode = s.txu.mode ∧
      (i ≠ .evLsx val → t.txu.lsx = s.txu.lsx) ∧ (i ≠ .evLsy val → t.txu.lsy = s.txu.lsy) ∧
      (i ≠ .evRsx val → t.txu.rsx = s.txu.rsx) ∧ (i ≠ .evRsy val → t.txu.rsy = s.txu.rsy) ∧
      (i ≠ .evBoost val → t.txu.boost = s.txu.boost)

/-- R104. What a BATCH leaves unchanged, in RUN or not: every register of both units, the parameters and the waiting
transactions; it adds at most one pulse, on `dg_out` or `log_out` of the TXU. -/
def Obligations.FrameOfBatch : Prop :=
  ∀ (sendOk : Bool) (s t : State), exec (.batch sendOk) s = .next t →
    t.txu = s.txu ∧ t.rxu = s.rxu ∧ t.config = s.config ∧ t.inputs = s.inputs ∧ t.commands = s.commands ∧
      (t.outputs = s.outputs ∨ ∃ p, t.outputs = s.outputs ++ [p])

/-- R120, R162, R163. What RX and TICK leave unchanged: the TXU, the parameters, the waiting transactions, the datagrams
sent and `rxu_mode`; an RX of the wrong length leaves every register, and a TICK that does not expire leaves every register
but `wd_count` and every pulse. -/
def Obligations.FrameOfRxAndTick : Prop :=
  (∀ (len : BitVec 16) (b : Datagram) (s t : State), exec (.rx len b) s = .next t →
      t.txu = s.txu ∧ t.config = s.config ∧ t.inputs = s.inputs ∧ t.rxu.mode = s.rxu.mode ∧
        t.datagrams = s.datagrams ∧ s.outputs <+: t.outputs ∧
        (len.toNat ≠ s.config.rxuWireLen.bytes → t.rxu = s.rxu ∧ t.commands = s.commands)) ∧
  (∀ s t : State, exec .tick s = .next t →
      t.txu = s.txu ∧ t.config = s.config ∧ t.inputs = s.inputs ∧ t.rxu.mode = s.rxu.mode ∧
        t.datagrams = s.datagrams ∧ s.outputs <+: t.outputs ∧
        (s.rxu.wdCount + 1 < s.config.timeoutTicks →
          t.outputs = s.outputs ∧ t.rxu.wdState = s.rxu.wdState ∧ t.rxu.outServo = s.rxu.outServo ∧
            t.rxu.outMotor = s.rxu.outMotor ∧ t.rxu.outValid = s.rxu.outValid))

/-- R165, R220. What SHUTDOWN and RESET of a unit leave unchanged: the other unit, the parameters, the waiting transactions,
the datagrams and commands so far and so the duty the actuator holds; SHUTDOWN leaves every register of its own unit but the
mode. -/
def Obligations.FrameOfShutdownAndReset : Prop :=
  (∀ (i : Instr) (s t : State) (u : UnitId), (i = .shutdown u ∨ ∃ ok, i = .reset u ok) → exec i s = .next t →
      t.config = s.config ∧ t.inputs = s.inputs ∧ t.datagrams = s.datagrams ∧ t.commands = s.commands ∧
        t.heldDuty = s.heldDuty ∧ (u = .txu → t.rxu = s.rxu) ∧ (u = .rxu → t.txu = s.txu)) ∧
  (∀ (s t : State) (u : UnitId), exec (.shutdown u) s = .next t →
      t.outputs = s.outputs ∧ { t.txu with mode := s.txu.mode } = s.txu ∧ { t.rxu with mode := s.rxu.mode } = s.rxu)

/-- R12, R29, R212. A command is two driver calls, `setDutyCycle(SERVO, servo)` then `setDutyCycle(MOTOR, motor)`, with its
own two duties: one command more is these two calls more, in any two states, and the same commands are the same calls. A
transaction issues no command and makes no call, or issues one command and makes its two calls; the duties are 0 and 0, or 90
to 210 and 1000 to 2000, each within its channel's range. -/
def Obligations.CommandIsServoThenMotorCall : Prop :=
  (∀ (s t : State) (c : Command), t.commands = s.commands ++ [c] →
      t.driverCalls = s.driverCalls ++
        [DriverCall.setDutyCycle .servo c.servo.toNat, DriverCall.setDutyCycle .motor c.motor.toNat]) ∧
  (∀ s t : State, t.commands = s.commands → t.driverCalls = s.driverCalls) ∧
  (∀ s : State, s.commands = [] → s.driverCalls = []) ∧
  (∀ (i : Instr) (s t : State), exec i s = .next t →
      (t.commands = s.commands ∧ t.driverCalls = s.driverCalls) ∨
      ∃ c : Command, t.commands = s.commands ++ [c] ∧
        t.driverCalls = s.driverCalls ++
          [DriverCall.setDutyCycle .servo c.servo.toNat, DriverCall.setDutyCycle .motor c.motor.toNat] ∧
        ((c.servo.toNat = 0 ∧ c.motor.toNat = 0) ∨
          (90 ≤ c.servo.toNat ∧ c.servo.toNat ≤ 210 ∧ 1000 ≤ c.motor.toNat ∧ c.motor.toNat ≤ 2000)) ∧
        c.servo.toNat ≤ channelRange .servo ∧ c.motor.toNat ≤ channelRange .motor)

/-! ## Encodings and the step -/

/-- Every well-formed transaction, with every operand at every value, decodes from its own word and payload. -/
def Obligations.DecodeOfEncode : Prop :=
  ∀ i : Instr, i.wf = true → (encode i).decode = .ok i

/-- A word and payload that a unit decodes are exactly those the encoder gives for what it decodes to, and that is
well-formed; so no bit is read two ways. -/
def Obligations.EncodeOfDecode : Prop :=
  ∀ (u : UnitId) (w : TxnWord) (payload : Datagram) (i : Instr),
    decode u w payload = .ok i → i.wf = true ∧ encode i = ⟨u, w, payload⟩

/-- R70. No word matches two rows of the opcode table; a decoded word matches its own row and no other; a word that matches a
row decodes, at a unit that accepts its kind and with a payload of its length; a word that matches no row is refused for a
reserved kind, a reserved bit or the wrong unit, whatever the unit and the payload. -/
def Obligations.EveryWordIsOneRowOrRefused : Prop :=
  (∀ w : TxnWord, (opcodeRows.filter fun r => w &&& r.2 == r.1).length ≤ 1) ∧
  (∀ (u : UnitId) (w : TxnWord) (payload : Datagram) (i : Instr), decode u w payload = .ok i →
      (opcodeRows.filter fun r => w &&& r.2 == r.1) = [(i.rowMatch, i.rowMask)]) ∧
  (∀ (w : TxnWord), (∃ r ∈ opcodeRows, w &&& r.2 = r.1) →
      ∃ (u : UnitId) (payload : Datagram) (i : Instr), decode u w payload = .ok i) ∧
  (∀ (u : UnitId) (w : TxnWord) (payload : Datagram), (∀ r ∈ opcodeRows, w &&& r.2 ≠ r.1) →
      decode u w payload = .error .reservedKind ∨ decode u w payload = .error .reservedBits ∨
        decode u w payload = .error .wrongUnit)

/-- R69. (a) kinds 110 and 111 are refused; (b) a non-zero reserved bit of a kind the unit accepts is refused; (c) a kind the
unit does not accept is refused; (d) an EVENT with identifier 101, 110 or 111 is legal. The step then refuses. Which ground
is named where two hold is the model's choice (notes/assumptions/10.md). -/
def Obligations.RefusalGroundsOfTheWord : Prop :=
  (∀ (u : UnitId) (low : BitVec 21) (payload : Datagram),
      decode u (0b110#3 ++ low) payload = .error .reservedKind ∧
      decode u (0b111#3 ++ low) payload = .error .reservedKind) ∧
  (∀ (id : BitVec 3) (r : BitVec 2) (val : BitVec 16) (payload : Datagram), r ≠ 0 →
      decode .txu ((0b000#3 ++ id) ++ (r ++ val)) payload = .error .reservedBits) ∧
  (∀ (r : BitVec 20) (b : BitVec 1) (payload : Datagram), r ≠ 0 →
      decode .txu ((0b001#3 ++ r) ++ b) payload = .error .reservedBits ∧
      ∀ u, decode u ((0b101#3 ++ r) ++ b) payload = .error .reservedBits) ∧
  (∀ (r : BitVec 5) (len : BitVec 16) (payload : Datagram), r ≠ 0 →
      decode .rxu ((0b010#3 ++ r) ++ len) payload = .error .reservedBits) ∧
  (∀ (r : BitVec 21) (payload : Datagram), r ≠ 0 →
      decode .rxu (0b011#3 ++ r) payload = .error .reservedBits ∧
      ∀ u, decode u (0b100#3 ++ r) payload = .error .reservedBits) ∧
  (∀ (low : BitVec 21) (payload : Datagram),
      decode .rxu (0b000#3 ++ low) payload = .error .wrongUnit ∧ decode .rxu (0b001#3 ++ low) payload = .error .wrongUnit ∧
      decode .txu (0b010#3 ++ low) payload = .error .wrongUnit ∧ decode .txu (0b011#3 ++ low) payload = .error .wrongUnit) ∧
  (∀ val : BitVec 16,
      decode .txu ((0b000#3 ++ 0b101#3) ++ (0#2 ++ val)) [] = .ok (.evId5 val) ∧
      decode .txu ((0b000#3 ++ 0b110#3) ++ (0#2 ++ val)) [] = .ok (.evId6 val) ∧
      decode .txu ((0b000#3 ++ 0b111#3) ++ (0#2 ++ val)) [] = .ok (.evId7 val)) ∧
  (∀ (s : State) (x : Txn) (rest : List Txn) (why : Reject), s.inputs = x :: rest → x.decode = .error why →
      step s = .refused (.rejected why))

/-- R71. The words of the trace notation, and words written out from R66 that decode to their transactions. -/
def Obligations.WordsOfTheTraceNotation : Prop :=
  (∀ val : BitVec 16,
      (Instr.evLsx val).word = 0x000000#24 ||| val.setWidth 24 ∧ (Instr.evLsy val).word = 0x040000#24 ||| val.setWidth 24 ∧
      (Instr.evRsx val).word = 0x080000#24 ||| val.setWidth 24 ∧ (Instr.evRsy val).word = 0x0C0000#24 ||| val.setWidth 24 ∧
      (Instr.evBoost val).word = 0x100000#24 ||| val.setWidth 24 ∧ (Instr.evId5 val).word = 0x140000#24 ||| val.setWidth 24 ∧
      (Instr.evId6 val).word = 0x180000#24 ||| val.setWidth 24 ∧ (Instr.evId7 val).word = 0x1C0000#24 ||| val.setWidth 24 ∧
      ∀ payload, (Instr.rx val payload).word = 0x400000#24 ||| val.setWidth 24) ∧
  decode .txu 0x0C01FF#24 [] = .ok (.evRsy 0x01FF) ∧ decode .txu 0x10FFFF#24 [] = .ok (.evBoost 0xFFFF) ∧
  decode .txu 0x200001#24 [] = .ok (.batch true) ∧ decode .rxu 0x400002#24 [0xAB, 0xCD] = .ok (.rx 2 [0xAB, 0xCD]) ∧
  decode .rxu 0x600000#24 [] = .ok .tick ∧ decode .rxu 0x800000#24 [] = .ok (.shutdown .rxu) ∧
  decode .txu 0xA00001#24 [] = .ok (.reset .txu true) ∧ decode .rxu 0xA00000#24 [] = .ok (.reset .rxu false)

/-- R48, R66, R216. A step takes the first waiting transaction and is the meaning of what its unit's decoder reads from it,
with that transaction taken from the queue; with none waiting, all state is held. -/
def Obligations.StepRunsTheDecodedTransaction : Prop :=
  (∀ (s : State) (x : Txn) (rest : List Txn) (i : Instr), s.inputs = x :: rest → decode x.unit x.word x.payload = .ok i →
      step s = exec i { s with inputs := rest }) ∧
  (∀ s : State, s.inputs = [] → step s = .next s)

/-! ## Invariants -/

/-- R31, kept by every step from every state that meets it. (The range of `wd_count`: `WatchdogCountFitsItsRegister`.) -/
def Obligations.StepKeepsRxuInvariant : Prop :=
  ∀ s t : State, RxuInvariant s → step s = .next t → RxuInvariant t

/-- R62, R104, R146, R212. From every state whose ports have carried only commands the RXU can issue and datagrams of the
TXU's own form, every step leaves such a state. -/
def Obligations.StepKeepsTraceInvariant : Prop :=
  ∀ s t : State, TraceInvariant s → step s = .next t → TraceInvariant t

/-- R28, R165. While `out_valid` is set (and the RXU has had a RESET), the duty the actuator holds is the one in `out_servo`
and `out_motor`; every step keeps this. That the held duty is read from the commands on `cmd_out` is the model's reading
(notes/assumptions/11.md). -/
def Obligations.StepKeepsHeldDuty : Prop :=
  ∀ s t : State, HeldDutyInvariant s → step s = .next t → HeldDutyInvariant t

/-- The three invariants and the legal parameter values hold of the reset state. -/
def Obligations.InvariantsHoldAtReset : Prop :=
  legalTiming State.reset.config.timeoutS State.reset.config.tickHz State.reset.config.timeoutTicks ∧ RxuInvariant State.reset ∧ TraceInvariant State.reset ∧ HeldDutyInvariant State.reset

/-! ## The two units -/

/-- R3, R26, R30. A transaction of one unit leaves the other unit and every parameter alone, and what it does to its own
registers and ports depends on its own registers and the parameters only: nothing of the other unit can show. -/
def Obligations.UnitsShareNoState : Prop :=
  (∀ (i : Instr) (s t : State), exec i s = .next t →
      t.config = s.config ∧ t.inputs = s.inputs ∧ (i.unit = .txu → t.rxu = s.rxu) ∧ (i.unit = .rxu → t.txu = s.txu)) ∧
  (∀ (i : Instr) (s t s' t' : State), i.unit = .txu → s.config = t.config → s.txu = t.txu →
      exec i s = .next s' → exec i t = .next t' →
      s'.txu = t'.txu ∧ ∃ ps, s'.outputs = s.outputs ++ ps ∧ t'.outputs = t.outputs ++ ps) ∧
  (∀ (i : Instr) (s t s' t' : State), i.unit = .rxu → s.config = t.config → s.rxu = t.rxu →
      exec i s = .next s' → exec i t = .next t' →
      s'.rxu = t'.rxu ∧ ∃ ps, s'.outputs = s.outputs ++ ps ∧ t'.outputs = t.outputs ++ ps)

/-- R3, R48, R214. The order in which a transaction of the TXU and one of the RXU are taken does not show: both orders
complete, and give the same registers and the same pulses in the same order on every port. -/
def Obligations.TransactionsOfDifferentUnitsCommute : Prop :=
  ∀ (i j : Instr) (s : State), i.wf = true → j.wf = true → i.unit = .txu → j.unit = .rxu →
    ∃ s1 s2 t1 t2 : State, exec i s = .next s1 ∧ exec j s1 = .next s2 ∧ exec j s = .next t1 ∧ exec i t1 = .next t2 ∧
      s2.config = t2.config ∧ s2.txu = t2.txu ∧ s2.rxu = t2.rxu ∧ s2.inputs = t2.inputs ∧
      s2.datagrams = t2.datagrams ∧ s2.commands = t2.commands ∧
      ∀ u, s2.logs.filter (fun c => c.unit == u) = t2.logs.filter (fun c => c.unit == u)

/-- R4, R72. With both units in RUN and built with one `WIRE_LEN`, SEND x, y, b and then DELIVER of the datagram it sent
issue one command: the servo map of the low byte of x and the motor map of 255 less the low byte of y, boosted as b is not
0. -/
def Obligations.SendThenDeliverReachesActuator : Prop :=
  ∀ (x y b : BitVec 16) (s : State), s.txu.mode = .run → s.rxu.mode = .run → s.config.linked → s.inputs = [] →
    ∃ t u, runSteps 4 (s.offerLine (.send x y b)) = .next t ∧ t.commands = s.commands ∧ t.inputs = [] ∧
      runSteps 1 (t.offerLine (.deliver (s.datagrams.length + 1))) = .next u ∧ u.inputs = [] ∧
      u.commands = s.commands ++
        [⟨servoMap (x.extractLsb' 0 8), motorMap (255 - y.extractLsb' 0 8) (decide (b ≠ 0))⟩] ∧
      u.rxu.wdState = .active ∧ u.rxu.wdCount = 0

/-- R237. With different `WIRE_LEN`, an RX of any datagram the TXU can send is a MalformedFrame. -/
def Obligations.WireLenMismatchDropsEveryDatagram : Prop :=
  ∀ (s : State) (d : Datagram), s.rxu.mode = .run → ¬ s.config.linked → legalDatagram s.config.txuWireLen.bytes d →
    exec (rxOf d) s = .next { s with outputs := s.outputs ++ [Pulse.logOut .malformedFrame] }

/-- R209. The order a build must act as if it took the inputs of one cycle in: the same transactions, by rank, and in
arrival order within a rank. The rank is of the kind alone: RESET, then SHUTDOWN, then RX and EVENT, then TICK and BATCH.
That one order merges the RXU's and the TXU's is the model's choice (notes/assumptions/16.md). -/
def Obligations.CycleOrderIsStableByRank : Prop :=
  (∀ x y : Txn, kindOf (wordKind x.word) = kindOf (wordKind y.word) → cycleRank x = cycleRank y) ∧
  (∀ reset shutdown rx event tick batch : Txn,
      kindOf (wordKind reset.word) = some .reset → kindOf (wordKind shutdown.word) = some .shutdown →
      kindOf (wordKind rx.word) = some .rx → kindOf (wordKind event.word) = some .event →
      kindOf (wordKind tick.word) = some .tick → kindOf (wordKind batch.word) = some .batch →
      cycleRank reset < cycleRank shutdown ∧
        (cycleRank shutdown < cycleRank rx ∧ cycleRank rx < cycleRank tick) ∧
        (cycleRank shutdown < cycleRank event ∧ cycleRank event < cycleRank batch)) ∧
  ∀ ts : List Txn, (∀ x ∈ ts, kindOf (wordKind x.word) ≠ none) →
    (cycleOrder ts).Perm ts ∧ (cycleOrder ts).Pairwise (fun a b => cycleRank a ≤ cycleRank b) ∧
      ∀ r, (cycleOrder ts).filter (fun x => cycleRank x == r) = ts.filter (fun x => cycleRank x == r)

/-- R209. A valid frame in the same cycle as an expiring TICK restarts the watchdog first: its command is issued, and no
expiry follows in that cycle unless `TIMEOUT_TICKS` is 1. -/
def Obligations.FrameBeatsTickOfOneCycle : Prop :=
  ∀ (s : State) (len : BitVec 16) (b : Datagram) (d : Decoded), s.rxu.mode = .run →
    len.toNat = s.config.rxuWireLen.bytes → b.length = len.toNat → unpack b len.toNat = some d →
    s.rxu.wdCount + 1 = s.config.timeoutTicks →
    s.inputs = cycleOrder [encode .tick, encode (.rx len b)] →
    ∃ t, runSteps 2 s = .next t ∧ t.inputs = [] ∧
      (2 ≤ s.config.timeoutTicks →
        t.commands = s.commands ++ [mapCommand d] ∧ t.rxu.wdState = .active ∧ t.rxu.wdCount = 1) ∧
      (s.config.timeoutTicks = 1 →
        t.commands = s.commands ++ [mapCommand d, ⟨0, 0⟩] ∧ t.rxu.wdState = .failsafe ∧ t.rxu.wdCount = 0)

/-! ## Parameters and widths -/

/-- R27. `wd_count` is below `TIMEOUT_TICKS` in every state and mode, so it fits its register of ceil(log2(`TIMEOUT_TICKS`))
bits: 1 bit where `TIMEOUT_TICKS` is 1, and where it is 2 or more the fewest bits that hold so many values. A transaction
leaves it as it was or at 0, or is a TICK that adds 1. That the range holds in every mode, OFF before the first RESET
included, where R221 leaves the count unspecified, is the model's choice (notes/assumptions/8.md). -/
def Obligations.WatchdogCountFitsItsRegister : Prop :=
  (∀ s : State, s.rxu.wdCount ≤ s.config.timeoutTicks - 1 ∧ s.rxu.wdCount < 2 ^ s.config.countWidth) ∧
  (∀ c : Config, (c.timeoutTicks = 1 → c.countWidth = 1) ∧
      (2 ≤ c.timeoutTicks → 1 ≤ c.countWidth ∧ c.timeoutTicks ≤ 2 ^ c.countWidth) ∧ (2 ≤ c.timeoutTicks → 2 ^ (c.countWidth - 1) < c.timeoutTicks)) ∧
  (∀ (i : Instr) (s t : State), exec i s = .next t →
      t.rxu.wdCount = s.rxu.wdCount ∨ t.rxu.wdCount = 0 ∨ (i = .tick ∧ t.rxu.wdCount = s.rxu.wdCount + 1))

/-- R8, D9. In every state the timing parameters are legal: `TIMEOUT_TICKS` is `TIMEOUT_S * TICK_HZ` rounded, so it is equal
to it where that is an integer, and that many tick periods differ from `TIMEOUT_S` by less than one. No step changes a
parameter. This hardware has `WIRE_LEN` 8 and `TIMEOUT_S` 1. That these are rational numbers, and that rounding means no
more than a difference below 1, is the model's choice (notes/assumptions/3.md and 17.md). -/
def Obligations.TimingParametersAreLegal : Prop :=
  (∀ s : State, 0 < s.config.timeoutS ∧ 0 < s.config.tickHz ∧ 1 ≤ s.config.timeoutTicks ∧
      (∀ n : Nat, s.config.timeoutS * s.config.tickHz = n → s.config.timeoutTicks = n) ∧
      (s.config.timeoutTicks : ℚ) / s.config.tickHz - s.config.timeoutS < 1 / s.config.tickHz ∧
      s.config.timeoutS - (s.config.timeoutTicks : ℚ) / s.config.tickHz < 1 / s.config.tickHz) ∧
  (∀ s t : State, step s = .next t → t.config = s.config) ∧
  (Config.thisHardware.txuWireLen.bytes = 8 ∧ Config.thisHardware.rxuWireLen.bytes = 8 ∧ Config.thisHardware.timeoutS = 1)
end

