-- ==== Sys2Proof/Laws/Decode.lean ====
section
/-!
SUPPORT. Fields of an encoded word: each field equation that decoding an encoded transaction needs, by plain arithmetic on
the value of the concatenation.
-/

namespace Sys2Proof

/-- The value of a concatenation as a sum, so that field extraction is division and remainder. -/
theorem toNat_append_add {n m : Nat} (x : BitVec n) (y : BitVec m) : (x ++ y).toNat = x.toNat * 2 ^ m + y.toNat := by
  rw [BitVec.toNat_append, ← Nat.shiftLeft_add_eq_or_of_lt y.isLt, Nat.shiftLeft_eq]

theorem eventWord_toNat (id : BitVec 3) (val : BitVec 16) :
    (eventWord id val).toNat = id.toNat * 2 ^ 18 + val.toNat := by
  refine (toNat_append_add (0b000#3 ++ id) (0#2 ++ val)).trans ?_
  rw [toNat_append_add, toNat_append_add]
  simp

theorem verdictWord_toNat (kind : BitVec 3) (b : Bool) :
    (verdictWord kind b).toNat = kind.toNat * 2 ^ 21 + b.toNat := by
  refine (toNat_append_add (kind ++ 0#20) (BitVec.ofBool b)).trans ?_
  rw [toNat_append_add, BitVec.toNat_ofBool]
  simp
  omega

theorem bareWord_toNat (kind : BitVec 3) : (bareWord kind).toNat = kind.toNat * 2 ^ 21 := by
  refine (toNat_append_add kind 0#21).trans ?_
  simp

theorem rxWord_toNat (len : BitVec 16) (payload : Datagram) : (Instr.rx len payload).word.toNat = 2 * 2 ^ 21 + len.toNat := by
  refine (toNat_append_add (0b010#3 ++ 0#5) len).trans ?_
  rw [toNat_append_add]
  simp

/-- A field of a word is its value divided and reduced. -/
theorem extract_toNat (w : TxnWord) (lo n : Nat) : (w.extractLsb' lo n).toNat = w.toNat / 2 ^ lo % 2 ^ n := by
  simp [Nat.shiftRight_eq_div_pow]

theorem wordKind_eventWord (id : BitVec 3) (val : BitVec 16) : wordKind (eventWord id val) = 0b000#3 := by
  apply BitVec.eq_of_toNat_eq
  rw [wordKind, extract_toNat, eventWord_toNat]
  have := id.isLt
  have := val.isLt
  simp
  omega

theorem wordId_eventWord (id : BitVec 3) (val : BitVec 16) : wordId (eventWord id val) = id := by
  apply BitVec.eq_of_toNat_eq
  rw [wordId, extract_toNat, eventWord_toNat]
  have := id.isLt
  have := val.isLt
  omega

theorem wordEventReserved_eventWord (id : BitVec 3) (val : BitVec 16) : wordEventReserved (eventWord id val) = 0 := by
  apply BitVec.eq_of_toNat_eq
  rw [wordEventReserved, extract_toNat, eventWord_toNat]
  have := val.isLt
  simp
  omega

theorem wordLow16_eventWord (id : BitVec 3) (val : BitVec 16) : wordLow16 (eventWord id val) = val := by
  apply BitVec.eq_of_toNat_eq
  rw [wordLow16, extract_toNat, eventWord_toNat]
  have := val.isLt
  omega

theorem wordKind_verdictWord (kind : BitVec 3) (b : Bool) : wordKind (verdictWord kind b) = kind := by
  apply BitVec.eq_of_toNat_eq
  rw [wordKind, extract_toNat, verdictWord_toNat]
  have := kind.isLt
  have := b.toNat_lt
  omega

theorem wordReserved20_verdictWord (kind : BitVec 3) (b : Bool) : wordReserved20 (verdictWord kind b) = 0 := by
  apply BitVec.eq_of_toNat_eq
  rw [wordReserved20, extract_toNat, verdictWord_toNat]
  have := b.toNat_lt
  simp
  omega

theorem wordBit0_verdictWord (kind : BitVec 3) (b : Bool) : wordBit0 (verdictWord kind b) = b := by
  rw [wordBit0, BitVec.getLsbD, Nat.testBit_zero, verdictWord_toNat]
  cases b <;> simp <;> omega

theorem wordKind_bareWord (kind : BitVec 3) : wordKind (bareWord kind) = kind := by
  apply BitVec.eq_of_toNat_eq
  rw [wordKind, extract_toNat, bareWord_toNat]
  have := kind.isLt
  omega

theorem wordReserved21_bareWord (kind : BitVec 3) : wordReserved21 (bareWord kind) = 0 := by
  apply BitVec.eq_of_toNat_eq
  rw [wordReserved21, extract_toNat, bareWord_toNat]
  simp

theorem wordKind_rxWord (len : BitVec 16) (payload : Datagram) : wordKind (Instr.rx len payload).word = 0b010#3 := by
  apply BitVec.eq_of_toNat_eq
  rw [wordKind, extract_toNat, rxWord_toNat]
  have := len.isLt
  simp
  omega

theorem wordRxReserved_rxWord (len : BitVec 16) (payload : Datagram) :
    wordRxReserved (Instr.rx len payload).word = 0 := by
  apply BitVec.eq_of_toNat_eq
  rw [wordRxReserved, extract_toNat, rxWord_toNat]
  have := len.isLt
  simp
  omega

theorem wordLow16_rxWord (len : BitVec 16) (payload : Datagram) : wordLow16 (Instr.rx len payload).word = len := by
  apply BitVec.eq_of_toNat_eq
  rw [wordLow16, extract_toNat, rxWord_toNat]
  have := len.isLt
  omega

/-! ## The parts of the decoder -/

theorem plainTxn_ok (payload : Datagram) (c : Bool) (i j : Instr) :
    plainTxn c payload i = .ok j ↔ c = true ∧ payload = [] ∧ j = i := by
  cases c <;> cases payload <;> simp [plainTxn, eq_comm]

theorem rxTxn_ok (w : TxnWord) (payload : Datagram) (j : Instr) :
    rxTxn w payload = .ok j ↔
      wordRxReserved w = 0 ∧ payloadFits (wordLow16 w) payload = true ∧ j = .rx (wordLow16 w) payload := by
  unfold rxTxn
  by_cases h : wordRxReserved w = 0
  · by_cases hp : payloadFits (wordLow16 w) payload = true <;> simp [h, hp, eq_comm]
  · have h' : wordRxReserved w ≠ 0#5 := h
    simp [h']

/-- A word decodes exactly where its kind is not reserved, the unit accepts it, and its fields decode (R70). -/
theorem decode_ok (u : UnitId) (w : TxnWord) (payload : Datagram) (i : Instr) :
    decode u w payload = .ok i ↔
      ∃ k, kindOf (wordKind w) = some k ∧ k.acceptedBy u = true ∧ decodeKind u w payload k = .ok i := by
  unfold decode
  cases kindOf (wordKind w) with
  | none => simp
  | some k => by_cases h : k.acceptedBy u = true <;> simp [h]

/-! ## A word from its fields -/

theorem kind_eq_of_toNat (w : TxnWord) (k : BitVec 3) (h : wordKind w = k) : w.toNat / 2 ^ 21 = k.toNat := by
  have hw := w.isLt
  have e := congrArg BitVec.toNat h
  rw [wordKind, extract_toNat] at e
  omega

theorem kindOf_some (k : BitVec 3) (j : TxnKind) (h : kindOf k = some j) : k.toNat = j.number := by
  unfold kindOf at h
  split at h <;> cases h <;> assumption

/-- A word whose kind has a meaning, as a bound on its value. -/
theorem word_of_kind (w : TxnWord) (j : TxnKind) (h : kindOf (wordKind w) = some j) : w.toNat / 2 ^ 21 = j.number := by
  rw [kind_eq_of_toNat w _ rfl, kindOf_some _ _ h]

theorem eq_eventWord (w : TxnWord) (hk : w.toNat / 2 ^ 21 = 0) (hr : wordEventReserved w = 0) :
    w = eventWord (wordId w) (wordLow16 w) := by
  have e := congrArg BitVec.toNat hr
  rw [wordEventReserved, extract_toNat] at e
  apply BitVec.eq_of_toNat_eq
  rw [eventWord_toNat, wordId, wordLow16, extract_toNat, extract_toNat]
  simp at e
  omega

theorem eq_rxWord (w : TxnWord) (payload : Datagram) (hk : w.toNat / 2 ^ 21 = 2) (hr : wordRxReserved w = 0) :
    w = (Instr.rx (wordLow16 w) payload).word := by
  have e := congrArg BitVec.toNat hr
  rw [wordRxReserved, extract_toNat] at e
  apply BitVec.eq_of_toNat_eq
  rw [rxWord_toNat, wordLow16, extract_toNat]
  simp at e
  omega

theorem eq_verdictWord (w : TxnWord) (k : BitVec 3) (hk : w.toNat / 2 ^ 21 = k.toNat) (hr : wordReserved20 w = 0) :
    w = verdictWord k (wordBit0 w) := by
  have e := congrArg BitVec.toNat hr
  rw [wordReserved20, extract_toNat] at e
  apply BitVec.eq_of_toNat_eq
  rw [verdictWord_toNat, wordBit0, BitVec.getLsbD, Nat.testBit_zero]
  simp at e
  rcases Nat.mod_two_eq_zero_or_one w.toNat with h | h <;> simp [h] <;> omega

theorem eq_bareWord (w : TxnWord) (k : BitVec 3) (hk : w.toNat / 2 ^ 21 = k.toNat) (hr : wordReserved21 w = 0) :
    w = bareWord k := by
  have e := congrArg BitVec.toNat hr
  rw [wordReserved21, extract_toNat] at e
  apply BitVec.eq_of_toNat_eq
  rw [bareWord_toNat]
  simp at e
  omega

theorem acceptedBy_event (u : UnitId) (h : TxnKind.event.acceptedBy u = true) : u = .txu := by cases u <;> trivial
theorem acceptedBy_batch (u : UnitId) (h : TxnKind.batch.acceptedBy u = true) : u = .txu := by cases u <;> trivial
theorem acceptedBy_rx (u : UnitId) (h : TxnKind.rx.acceptedBy u = true) : u = .rxu := by cases u <;> trivial
theorem acceptedBy_tick (u : UnitId) (h : TxnKind.tick.acceptedBy u = true) : u = .rxu := by cases u <;> trivial

/-- The eight identifiers of R68 are all there are. -/
theorem eventOf_cases (id : BitVec 3) (val : BitVec 16) :
    (id = 0 ∧ eventOf id val = .evLsx val) ∨ (id = 1 ∧ eventOf id val = .evLsy val) ∨
    (id = 2 ∧ eventOf id val = .evRsx val) ∨ (id = 3 ∧ eventOf id val = .evRsy val) ∨
    (id = 4 ∧ eventOf id val = .evBoost val) ∨ (id = 5 ∧ eventOf id val = .evId5 val) ∨
    (id = 6 ∧ eventOf id val = .evId6 val) ∨ (id = 7 ∧ eventOf id val = .evId7 val) := by
  have h : id = 0 ∨ id = 1 ∨ id = 2 ∨ id = 3 ∨ id = 4 ∨ id = 5 ∨ id = 6 ∨ id = 7 := by
    revert id
    decide
  rcases h with h | h | h | h | h | h | h | h <;> subst h <;> simp [eventOf]

end Sys2Proof
end

