-- ==== Sys2Proof/Laws/State.lean ====
section
/-!
SUPPORT. One equation per field of State and per update of Machine/Ops.lean, so that no proof unfolds a record update.
-/

namespace Sys2Proof.Machine

open Sys2Proof

variable (s : State)

@[simp] theorem Txu.afterReset_mode (c : Config) (ok : Bool) : (Txu.afterReset c ok).mode = if ok then .run else .fatal := rfl
@[simp] theorem Txu.afterReset_lsx (c : Config) (ok : Bool) : (Txu.afterReset c ok).lsx = c.axisResetLsx := rfl
@[simp] theorem Txu.afterReset_lsy (c : Config) (ok : Bool) : (Txu.afterReset c ok).lsy = c.axisResetLsy := rfl
@[simp] theorem Txu.afterReset_rsx (c : Config) (ok : Bool) : (Txu.afterReset c ok).rsx = c.axisResetRsx := rfl
@[simp] theorem Txu.afterReset_rsy (c : Config) (ok : Bool) : (Txu.afterReset c ok).rsy = c.axisResetRsy := rfl
@[simp] theorem Txu.afterReset_boost (c : Config) (ok : Bool) : (Txu.afterReset c ok).boost = c.boostReset := rfl

@[simp] theorem Rxu.afterReset_mode (ok : Bool) : (Rxu.afterReset ok).mode = if ok then .run else .fatal := rfl
@[simp] theorem Rxu.afterReset_wdState (ok : Bool) : (Rxu.afterReset ok).wdState = .active := rfl
@[simp] theorem Rxu.afterReset_wdCount (ok : Bool) : (Rxu.afterReset ok).wdCount = 0 := rfl
@[simp] theorem Rxu.afterReset_outServo (ok : Bool) : (Rxu.afterReset ok).outServo = 0 := rfl
@[simp] theorem Rxu.afterReset_outMotor (ok : Bool) : (Rxu.afterReset ok).outMotor = 0 := rfl
@[simp] theorem Rxu.afterReset_outValid (ok : Bool) : (Rxu.afterReset ok).outValid = false := rfl

@[simp] theorem State.writeLsx_config (v : Byte) : (s.writeLsx v).config = s.config := rfl
@[simp] theorem State.writeLsx_txu (v : Byte) : (s.writeLsx v).txu = { s.txu with lsx := v } := rfl
@[simp] theorem State.writeLsx_rxu (v : Byte) : (s.writeLsx v).rxu = s.rxu := rfl
@[simp] theorem State.writeLsx_inputs (v : Byte) : (s.writeLsx v).inputs = s.inputs := rfl
@[simp] theorem State.writeLsx_outputs (v : Byte) : (s.writeLsx v).outputs = s.outputs := rfl

@[simp] theorem State.writeLsy_config (v : Byte) : (s.writeLsy v).config = s.config := rfl
@[simp] theorem State.writeLsy_txu (v : Byte) : (s.writeLsy v).txu = { s.txu with lsy := v } := rfl
@[simp] theorem State.writeLsy_rxu (v : Byte) : (s.writeLsy v).rxu = s.rxu := rfl
@[simp] theorem State.writeLsy_inputs (v : Byte) : (s.writeLsy v).inputs = s.inputs := rfl
@[simp] theorem State.writeLsy_outputs (v : Byte) : (s.writeLsy v).outputs = s.outputs := rfl

@[simp] theorem State.writeRsx_config (v : Byte) : (s.writeRsx v).config = s.config := rfl
@[simp] theorem State.writeRsx_txu (v : Byte) : (s.writeRsx v).txu = { s.txu with rsx := v } := rfl
@[simp] theorem State.writeRsx_rxu (v : Byte) : (s.writeRsx v).rxu = s.rxu := rfl
@[simp] theorem State.writeRsx_inputs (v : Byte) : (s.writeRsx v).inputs = s.inputs := rfl
@[simp] theorem State.writeRsx_outputs (v : Byte) : (s.writeRsx v).outputs = s.outputs := rfl

@[simp] theorem State.writeRsy_config (v : Byte) : (s.writeRsy v).config = s.config := rfl
@[simp] theorem State.writeRsy_txu (v : Byte) : (s.writeRsy v).txu = { s.txu with rsy := v } := rfl
@[simp] theorem State.writeRsy_rxu (v : Byte) : (s.writeRsy v).rxu = s.rxu := rfl
@[simp] theorem State.writeRsy_inputs (v : Byte) : (s.writeRsy v).inputs = s.inputs := rfl
@[simp] theorem State.writeRsy_outputs (v : Byte) : (s.writeRsy v).outputs = s.outputs := rfl

@[simp] theorem State.writeBoost_config (v : Bool) : (s.writeBoost v).config = s.config := rfl
@[simp] theorem State.writeBoost_txu (v : Bool) : (s.writeBoost v).txu = { s.txu with boost := v } := rfl
@[simp] theorem State.writeBoost_rxu (v : Bool) : (s.writeBoost v).rxu = s.rxu := rfl
@[simp] theorem State.writeBoost_inputs (v : Bool) : (s.writeBoost v).inputs = s.inputs := rfl
@[simp] theorem State.writeBoost_outputs (v : Bool) : (s.writeBoost v).outputs = s.outputs := rfl

@[simp] theorem State.writeTxuMode_config (m : Mode) : (s.writeTxuMode m).config = s.config := rfl
@[simp] theorem State.writeTxuMode_txu (m : Mode) : (s.writeTxuMode m).txu = { s.txu with mode := m } := rfl
@[simp] theorem State.writeTxuMode_rxu (m : Mode) : (s.writeTxuMode m).rxu = s.rxu := rfl
@[simp] theorem State.writeTxuMode_inputs (m : Mode) : (s.writeTxuMode m).inputs = s.inputs := rfl
@[simp] theorem State.writeTxuMode_outputs (m : Mode) : (s.writeTxuMode m).outputs = s.outputs := rfl

@[simp] theorem State.writeRxuMode_config (m : Mode) : (s.writeRxuMode m).config = s.config := rfl
@[simp] theorem State.writeRxuMode_txu (m : Mode) : (s.writeRxuMode m).txu = s.txu := rfl
@[simp] theorem State.writeRxuMode_rxu (m : Mode) : (s.writeRxuMode m).rxu = { s.rxu with mode := m } := rfl
@[simp] theorem State.writeRxuMode_inputs (m : Mode) : (s.writeRxuMode m).inputs = s.inputs := rfl
@[simp] theorem State.writeRxuMode_outputs (m : Mode) : (s.writeRxuMode m).outputs = s.outputs := rfl

@[simp] theorem State.writeWdState_config (w : WdState) : (s.writeWdState w).config = s.config := rfl
@[simp] theorem State.writeWdState_txu (w : WdState) : (s.writeWdState w).txu = s.txu := rfl
@[simp] theorem State.writeWdState_rxu (w : WdState) : (s.writeWdState w).rxu = { s.rxu with wdState := w } := rfl
@[simp] theorem State.writeWdState_inputs (w : WdState) : (s.writeWdState w).inputs = s.inputs := rfl
@[simp] theorem State.writeWdState_outputs (w : WdState) : (s.writeWdState w).outputs = s.outputs := rfl

@[simp] theorem State.writeWdCount_config (n : Nat) (h : n < s.config.timeoutTicks) :
    (s.writeWdCount n h).config = s.config := rfl
@[simp] theorem State.writeWdCount_txu (n : Nat) (h : n < s.config.timeoutTicks) :
    (s.writeWdCount n h).txu = s.txu := rfl
@[simp] theorem State.writeWdCount_rxu (n : Nat) (h : n < s.config.timeoutTicks) :
    (s.writeWdCount n h).rxu = { s.rxu with wdCount := n } := rfl
@[simp] theorem State.writeWdCount_inputs (n : Nat) (h : n < s.config.timeoutTicks) :
    (s.writeWdCount n h).inputs = s.inputs := rfl
@[simp] theorem State.writeWdCount_outputs (n : Nat) (h : n < s.config.timeoutTicks) :
    (s.writeWdCount n h).outputs = s.outputs := rfl

@[simp] theorem State.writeOut_config (c : Command) : (s.writeOut c).config = s.config := rfl
@[simp] theorem State.writeOut_txu (c : Command) : (s.writeOut c).txu = s.txu := rfl
@[simp] theorem State.writeOut_rxu (c : Command) : (s.writeOut c).rxu = { s.rxu with outServo := c.servo, outMotor := c.motor, outValid := true } := rfl
@[simp] theorem State.writeOut_inputs (c : Command) : (s.writeOut c).inputs = s.inputs := rfl
@[simp] theorem State.writeOut_outputs (c : Command) : (s.writeOut c).outputs = s.outputs := rfl

@[simp] theorem State.writeTxu_config (t : Txu) : (s.writeTxu t).config = s.config := rfl
@[simp] theorem State.writeTxu_txu (t : Txu) : (s.writeTxu t).txu = t := rfl
@[simp] theorem State.writeTxu_rxu (t : Txu) : (s.writeTxu t).rxu = s.rxu := rfl
@[simp] theorem State.writeTxu_inputs (t : Txu) : (s.writeTxu t).inputs = s.inputs := rfl
@[simp] theorem State.writeTxu_outputs (t : Txu) : (s.writeTxu t).outputs = s.outputs := rfl

@[simp] theorem State.writeRxu_config (r : Rxu) (h : r.wdCount < s.config.timeoutTicks) :
    (s.writeRxu r h).config = s.config := rfl
@[simp] theorem State.writeRxu_txu (r : Rxu) (h : r.wdCount < s.config.timeoutTicks) :
    (s.writeRxu r h).txu = s.txu := rfl
@[simp] theorem State.writeRxu_rxu (r : Rxu) (h : r.wdCount < s.config.timeoutTicks) :
    (s.writeRxu r h).rxu = r := rfl
@[simp] theorem State.writeRxu_inputs (r : Rxu) (h : r.wdCount < s.config.timeoutTicks) :
    (s.writeRxu r h).inputs = s.inputs := rfl
@[simp] theorem State.writeRxu_outputs (r : Rxu) (h : r.wdCount < s.config.timeoutTicks) :
    (s.writeRxu r h).outputs = s.outputs := rfl

@[simp] theorem State.withInputs_config (ts : List Txn) : (s.withInputs ts).config = s.config := rfl
@[simp] theorem State.withInputs_txu (ts : List Txn) : (s.withInputs ts).txu = s.txu := rfl
@[simp] theorem State.withInputs_rxu (ts : List Txn) : (s.withInputs ts).rxu = s.rxu := rfl
@[simp] theorem State.withInputs_inputs (ts : List Txn) : (s.withInputs ts).inputs = ts := rfl
@[simp] theorem State.withInputs_outputs (ts : List Txn) : (s.withInputs ts).outputs = s.outputs := rfl

@[simp] theorem State.emit_config (p : Pulse) : (s.emit p).config = s.config := rfl
@[simp] theorem State.emit_txu (p : Pulse) : (s.emit p).txu = s.txu := rfl
@[simp] theorem State.emit_rxu (p : Pulse) : (s.emit p).rxu = s.rxu := rfl
@[simp] theorem State.emit_inputs (p : Pulse) : (s.emit p).inputs = s.inputs := rfl
@[simp] theorem State.emit_outputs (p : Pulse) : (s.emit p).outputs = s.outputs ++ [p] := rfl

@[simp] theorem State.emitDatagram_config (d : Datagram) : (s.emitDatagram d).config = s.config := rfl
@[simp] theorem State.emitDatagram_txu (d : Datagram) : (s.emitDatagram d).txu = s.txu := rfl
@[simp] theorem State.emitDatagram_rxu (d : Datagram) : (s.emitDatagram d).rxu = s.rxu := rfl
@[simp] theorem State.emitDatagram_inputs (d : Datagram) : (s.emitDatagram d).inputs = s.inputs := rfl
@[simp] theorem State.emitDatagram_outputs (d : Datagram) : (s.emitDatagram d).outputs = s.outputs ++ [Pulse.dgOut d] := rfl

@[simp] theorem State.emitCmd_config (c : Command) : (s.emitCmd c).config = s.config := rfl
@[simp] theorem State.emitCmd_txu (c : Command) : (s.emitCmd c).txu = s.txu := rfl
@[simp] theorem State.emitCmd_rxu (c : Command) : (s.emitCmd c).rxu = s.rxu := rfl
@[simp] theorem State.emitCmd_inputs (c : Command) : (s.emitCmd c).inputs = s.inputs := rfl
@[simp] theorem State.emitCmd_outputs (c : Command) : (s.emitCmd c).outputs = s.outputs ++ [Pulse.cmdOut c] := rfl

@[simp] theorem State.raise_config (e : LogCode) : (s.raise e).config = s.config := rfl
@[simp] theorem State.raise_txu (e : LogCode) : (s.raise e).txu = s.txu := rfl
@[simp] theorem State.raise_rxu (e : LogCode) : (s.raise e).rxu = s.rxu := rfl
@[simp] theorem State.raise_inputs (e : LogCode) : (s.raise e).inputs = s.inputs := rfl
@[simp] theorem State.raise_outputs (e : LogCode) : (s.raise e).outputs = s.outputs ++ [Pulse.logOut e] := rfl

@[simp] theorem State.issue_config (c : Command) : (s.issue c).config = s.config := rfl
@[simp] theorem State.issue_txu (c : Command) : (s.issue c).txu = s.txu := rfl
@[simp] theorem State.issue_rxu (c : Command) : (s.issue c).rxu =
    { s.rxu with outServo := c.servo, outMotor := c.motor, outValid := true } := rfl
@[simp] theorem State.issue_inputs (c : Command) : (s.issue c).inputs = s.inputs := rfl
@[simp] theorem State.issue_outputs (c : Command) : (s.issue c).outputs = s.outputs ++ [Pulse.cmdOut c] := rfl

@[simp] theorem State.wdFrame_config (c : Command) : (s.wdFrame c).config = s.config := rfl
@[simp] theorem State.wdFrame_txu (c : Command) : (s.wdFrame c).txu = s.txu := rfl
@[simp] theorem State.wdFrame_rxu (c : Command) : (s.wdFrame c).rxu =
    { s.rxu with wdState := .active, wdCount := 0, outServo := c.servo, outMotor := c.motor, outValid := true } := rfl
@[simp] theorem State.wdFrame_inputs (c : Command) : (s.wdFrame c).inputs = s.inputs := rfl
@[simp] theorem State.wdFrame_outputs (c : Command) : (s.wdFrame c).outputs = s.outputs ++ [Pulse.cmdOut c] := rfl

@[simp] theorem State.wdExpire_config : s.wdExpire.config = s.config := rfl
@[simp] theorem State.wdExpire_txu : s.wdExpire.txu = s.txu := rfl
@[simp] theorem State.wdExpire_rxu : s.wdExpire.rxu =
    { s.rxu with wdState := .failsafe, wdCount := 0, outServo := failsafeServo, outMotor := failsafeMotor, outValid := true } := rfl
@[simp] theorem State.wdExpire_inputs : s.wdExpire.inputs = s.inputs := rfl
@[simp] theorem State.wdExpire_outputs : s.wdExpire.outputs =
    s.outputs ++ [Pulse.cmdOut failsafeCommand] ++ [Pulse.logOut .receiveTimeout] := rfl

/-! The port traces of an update that emits nothing. -/

@[simp] theorem State.writeLsx_datagrams (v : Byte) : (s.writeLsx v).datagrams = s.datagrams := rfl
@[simp] theorem State.writeLsx_commands (v : Byte) : (s.writeLsx v).commands = s.commands := rfl
@[simp] theorem State.writeLsx_logs (v : Byte) : (s.writeLsx v).logs = s.logs := rfl

@[simp] theorem State.writeLsy_datagrams (v : Byte) : (s.writeLsy v).datagrams = s.datagrams := rfl
@[simp] theorem State.writeLsy_commands (v : Byte) : (s.writeLsy v).commands = s.commands := rfl
@[simp] theorem State.writeLsy_logs (v : Byte) : (s.writeLsy v).logs = s.logs := rfl

@[simp] theorem State.writeRsx_datagrams (v : Byte) : (s.writeRsx v).datagrams = s.datagrams := rfl
@[simp] theorem State.writeRsx_commands (v : Byte) : (s.writeRsx v).commands = s.commands := rfl
@[simp] theorem State.writeRsx_logs (v : Byte) : (s.writeRsx v).logs = s.logs := rfl

@[simp] theorem State.writeRsy_datagrams (v : Byte) : (s.writeRsy v).datagrams = s.datagrams := rfl
@[simp] theorem State.writeRsy_commands (v : Byte) : (s.writeRsy v).commands = s.commands := rfl
@[simp] theorem State.writeRsy_logs (v : Byte) : (s.writeRsy v).logs = s.logs := rfl

@[simp] theorem State.writeBoost_datagrams (v : Bool) : (s.writeBoost v).datagrams = s.datagrams := rfl
@[simp] theorem State.writeBoost_commands (v : Bool) : (s.writeBoost v).commands = s.commands := rfl
@[simp] theorem State.writeBoost_logs (v : Bool) : (s.writeBoost v).logs = s.logs := rfl

@[simp] theorem State.writeTxuMode_datagrams (m : Mode) : (s.writeTxuMode m).datagrams = s.datagrams := rfl
@[simp] theorem State.writeTxuMode_commands (m : Mode) : (s.writeTxuMode m).commands = s.commands := rfl
@[simp] theorem State.writeTxuMode_logs (m : Mode) : (s.writeTxuMode m).logs = s.logs := rfl

@[simp] theorem State.writeRxuMode_datagrams (m : Mode) : (s.writeRxuMode m).datagrams = s.datagrams := rfl
@[simp] theorem State.writeRxuMode_commands (m : Mode) : (s.writeRxuMode m).commands = s.commands := rfl
@[simp] theorem State.writeRxuMode_logs (m : Mode) : (s.writeRxuMode m).logs = s.logs := rfl

@[simp] theorem State.writeWdState_datagrams (w : WdState) : (s.writeWdState w).datagrams = s.datagrams := rfl
@[simp] theorem State.writeWdState_commands (w : WdState) : (s.writeWdState w).commands = s.commands := rfl
@[simp] theorem State.writeWdState_logs (w : WdState) : (s.writeWdState w).logs = s.logs := rfl

@[simp] theorem State.writeWdCount_datagrams (n : Nat) (h : n < s.config.timeoutTicks) :
    (s.writeWdCount n h).datagrams = s.datagrams := rfl
@[simp] theorem State.writeWdCount_commands (n : Nat) (h : n < s.config.timeoutTicks) :
    (s.writeWdCount n h).commands = s.commands := rfl
@[simp] theorem State.writeWdCount_logs (n : Nat) (h : n < s.config.timeoutTicks) :
    (s.writeWdCount n h).logs = s.logs := rfl

@[simp] theorem State.writeOut_datagrams (c : Command) : (s.writeOut c).datagrams = s.datagrams := rfl
@[simp] theorem State.writeOut_commands (c : Command) : (s.writeOut c).commands = s.commands := rfl
@[simp] theorem State.writeOut_logs (c : Command) : (s.writeOut c).logs = s.logs := rfl

@[simp] theorem State.writeTxu_datagrams (t : Txu) : (s.writeTxu t).datagrams = s.datagrams := rfl
@[simp] theorem State.writeTxu_commands (t : Txu) : (s.writeTxu t).commands = s.commands := rfl
@[simp] theorem State.writeTxu_logs (t : Txu) : (s.writeTxu t).logs = s.logs := rfl

@[simp] theorem State.writeRxu_datagrams (r : Rxu) (h : r.wdCount < s.config.timeoutTicks) :
    (s.writeRxu r h).datagrams = s.datagrams := rfl
@[simp] theorem State.writeRxu_commands (r : Rxu) (h : r.wdCount < s.config.timeoutTicks) :
    (s.writeRxu r h).commands = s.commands := rfl
@[simp] theorem State.writeRxu_logs (r : Rxu) (h : r.wdCount < s.config.timeoutTicks) :
    (s.writeRxu r h).logs = s.logs := rfl

@[simp] theorem State.withInputs_datagrams (ts : List Txn) : (s.withInputs ts).datagrams = s.datagrams := rfl
@[simp] theorem State.withInputs_commands (ts : List Txn) : (s.withInputs ts).commands = s.commands := rfl
@[simp] theorem State.withInputs_logs (ts : List Txn) : (s.withInputs ts).logs = s.logs := rfl

end Sys2Proof.Machine
end

