-- ==== Sys2Proof/Laws/Ops.lean ====
section
/-!
SUPPORT. What each shared operation can do, once: the datagram buffer, the mode gate, the mux, the watchdog actions, the
port traces, and the effects the meanings are made of.
-/

namespace Sys2Proof.Machine

open Sys2Proof

/-! ## The datagram buffer -/

@[simp] theorem memWrite_length (b : Datagram) (i : Nat) (v : Byte) : (memWrite b i v).length = b.length := by
  simp [memWrite]

@[simp] theorem blank_length (n : Nat) : (blank n).length = n := by simp [blank]

theorem memRead_memWrite_same (b : Datagram) (i : Nat) (v : Byte) (h : i < b.length) :
    memRead (memWrite b i v) i = some v := by
  simp [memRead, memWrite, h]

theorem memRead_memWrite_other (b : Datagram) (i j : Nat) (v : Byte) (h : i ≠ j) :
    memRead (memWrite b i v) j = memRead b j := by
  simp [memRead, memWrite, List.getElem?_set_ne h]

/-- A byte exists exactly at the indices of the buffer (R40). -/
theorem memRead_isSome_iff (b : Datagram) (i : Nat) : (memRead b i).isSome ↔ i < b.length := by
  simp [memRead]

/-- Reading within the buffer never fails. -/
theorem memReadBE_isSome (b : Datagram) : ∀ n, n ≤ b.length → ∃ v, memReadBE b n = some v
  | 0, _ => ⟨0, rfl⟩
  | n + 1, h => by
    obtain ⟨hi, e⟩ := memReadBE_isSome b n (by omega)
    obtain ⟨v, e'⟩ := Option.isSome_iff_exists.mp ((memRead_isSome_iff b n).mpr (by omega))
    exact ⟨hi * 256 + v.toNat, by simp [memReadBE, e, e']⟩

/-- UNPACK is total on a buffer with the bytes it reads (R122). -/
theorem unpack_isSome (b : Datagram) (n : Nat) (h : n ≤ b.length) : ∃ d, unpack b n = some d := by
  obtain ⟨v, e⟩ := memReadBE_isSome b n h
  exact ⟨fieldsOf v, by simp [unpack, e]⟩

theorem serialize_length (f : Frame) (n : Nat) : (serialize f n).length = n := by
  have go : ∀ (l : List Nat) (b : Datagram),
      (l.foldl (fun b i => memWrite b i (frameByte f n i)) b).length = b.length := by
    intro l
    induction l with
    | nil => intro b; rfl
    | cons i l ih => intro b; rw [List.foldl_cons, ih, memWrite_length]
  rw [serialize, go, blank_length]

/-- SERIALIZE writes every byte once, so the blank buffer it starts from does not show. -/
theorem serialize_w3 (f : Frame) : serialize f 3 = [frameByte f 3 0, frameByte f 3 1, frameByte f 3 2] := rfl

theorem serialize_w8 (f : Frame) : serialize f 8 =
    [frameByte f 8 0, frameByte f 8 1, frameByte f 8 2, frameByte f 8 3,
      frameByte f 8 4, frameByte f 8 5, frameByte f 8 6, frameByte f 8 7] := rfl

/-! ## The mode gate -/

theorem whenRunning_run (u : UnitId) (effect : State → Host.Outcome State Fault Refusal) (s : State)
    (h : s.modeOf u = .run) : whenRunning u effect s = effect s := by
  simp [whenRunning, h]

theorem whenRunning_idle (u : UnitId) (effect : State → Host.Outcome State Fault Refusal) (s : State)
    (h : s.modeOf u ≠ .run) : whenRunning u effect s = .next s := by
  simp [whenRunning, h]

/-- A gated transaction either does nothing, out of RUN, or has its effect, in RUN. -/
theorem whenRunning_cases (u : UnitId) (effect : State → Host.Outcome State Fault Refusal) (s t : State)
    (h : whenRunning u effect s = .next t) : (s.modeOf u ≠ .run ∧ t = s) ∨ (s.modeOf u = .run ∧ effect s = .next t) := by
  by_cases hm : s.modeOf u = .run
  · exact .inr ⟨hm, by rwa [whenRunning_run u effect s hm] at h⟩
  · rw [whenRunning_idle u effect s hm] at h
    cases h
    exact .inl ⟨hm, rfl⟩

@[simp] theorem State.modeOf_txu (s : State) : s.modeOf .txu = s.txu.mode := rfl
@[simp] theorem State.modeOf_rxu (s : State) : s.modeOf .rxu = s.rxu.mode := rfl

/-! ## The mux -/

@[simp] theorem mux_active (c : Command) : mux .active c = c := rfl
@[simp] theorem mux_failsafe (c : Command) : mux .failsafe c = failsafeCommand := rfl
@[simp] theorem failsafeCommand_servo : failsafeCommand.servo = 0 := rfl
@[simp] theorem failsafeCommand_motor : failsafeCommand.motor = 0 := rfl
@[simp] theorem failsafeServo_eq : failsafeServo = 0 := rfl
@[simp] theorem failsafeMotor_eq : failsafeMotor = 0 := rfl

/-! ## The port traces -/

theorem State.datagrams_of_outputs (s t : State) (h : t.outputs = s.outputs) : t.datagrams = s.datagrams := by
  simp [State.datagrams, h]

theorem State.commands_of_outputs (s t : State) (h : t.outputs = s.outputs) : t.commands = s.commands := by
  simp [State.commands, h]

theorem State.logs_of_outputs (s t : State) (h : t.outputs = s.outputs) : t.logs = s.logs := by
  simp [State.logs, h]

theorem State.datagrams_emit (s : State) (p : Pulse) :
    (s.emit p).datagrams = s.datagrams ++ (match p with | .dgOut d => [d] | .cmdOut _ => [] | .logOut _ => []) := by
  cases p <;> simp [State.datagrams]

theorem State.commands_emit (s : State) (p : Pulse) :
    (s.emit p).commands = s.commands ++ (match p with | .dgOut _ => [] | .cmdOut c => [c] | .logOut _ => []) := by
  cases p <;> simp [State.commands]

theorem State.logs_emit (s : State) (p : Pulse) :
    (s.emit p).logs = s.logs ++ (match p with | .dgOut _ => [] | .cmdOut _ => [] | .logOut e => [e]) := by
  cases p <;> simp [State.logs]

@[simp] theorem State.commands_wdFrame (s : State) (c : Command) : (s.wdFrame c).commands = s.commands ++ [c] := by
  simp [State.commands]

@[simp] theorem State.commands_wdExpire (s : State) : s.wdExpire.commands = s.commands ++ [failsafeCommand] := by
  simp [State.commands]

@[simp] theorem State.datagrams_wdFrame (s : State) (c : Command) : (s.wdFrame c).datagrams = s.datagrams := by
  simp [State.datagrams]

@[simp] theorem State.datagrams_wdExpire (s : State) : s.wdExpire.datagrams = s.datagrams := by
  simp [State.datagrams]

/-- One command more is its two driver calls more (R12). -/
theorem State.driverCalls_of_commands_append (s t : State) (c : Command) (h : t.commands = s.commands ++ [c]) :
    t.driverCalls = s.driverCalls ++ dutyCalls c := by
  simp [State.driverCalls, h]

theorem State.driverCalls_of_commands (s t : State) (h : t.commands = s.commands) : t.driverCalls = s.driverCalls := by
  simp [State.driverCalls, h]

/-- The actuator holds a command just issued. -/
theorem State.heldDuty_of_commands (s t : State) (c : Command) (h : t.commands = s.commands ++ [c]) :
    t.heldDuty = c := by
  simp [State.heldDuty, h]

/-! ## Effects of the families -/

/-- Accepting a datagram succeeds on every buffer that has its `len` bytes. -/
theorem acceptDatagram_cases (len : Nat) (b : Datagram) (s : State) (h : len ≤ b.length) :
    ∃ d, unpack b len = some d ∧ acceptDatagram len b s = .next (s.wdFrame (mapCommand d)) := by
  obtain ⟨d, e⟩ := unpack_isSome b len h
  exact ⟨d, e, by simp [acceptDatagram, e]⟩

theorem sendAttempt_txu (sendOk : Bool) (s : State) : (sendAttempt sendOk s).txu = s.txu := by
  cases sendOk <;> rfl
theorem sendAttempt_rxu (sendOk : Bool) (s : State) : (sendAttempt sendOk s).rxu = s.rxu := by
  cases sendOk <;> rfl
theorem sendAttempt_config (sendOk : Bool) (s : State) : (sendAttempt sendOk s).config = s.config := by
  cases sendOk <;> rfl
theorem sendAttempt_inputs (sendOk : Bool) (s : State) : (sendAttempt sendOk s).inputs = s.inputs := by
  cases sendOk <;> rfl
theorem sendAttempt_outputs (sendOk : Bool) (s : State) : (sendAttempt sendOk s).outputs =
    s.outputs ++ [if sendOk then Pulse.dgOut s.datagram else .logOut .sendFailed] := by
  cases sendOk <;> rfl

/-! ## The range of `wd_count` (R27) -/

/-- A TICK that does not stay below `TIMEOUT_TICKS` reaches exactly `TIMEOUT_TICKS`. -/
theorem State.count_of_not_below (s : State) (h : ¬ tickStaysBelow s.rxu.wdCount s.config.timeoutTicks) :
    s.rxu.wdCount + 1 = s.config.timeoutTicks := by
  have := s.countInRange
  unfold tickStaysBelow at h
  omega

/-- The two cases of a TICK, R162 and R163, are all there are. -/
theorem State.tick_cases (s : State) :
    s.rxu.wdCount + 1 < s.config.timeoutTicks ∨ s.rxu.wdCount + 1 = s.config.timeoutTicks :=
  (Decidable.em _).imp_right s.count_of_not_below

end Sys2Proof.Machine
end

