-- ==== Sys2Proof/Laws/Step.lean ====
section
/-!
SUPPORT. What one step can do, and how a run of steps is taken apart.
-/

namespace Sys2Proof.Machine

open Sys2Proof

theorem step_idle (s : State) (h : s.inputs = []) : step s = .next s := by simp [step, h]

/-- A step that answers a next state waited, or ran the instruction decoded from the first waiting transaction. -/
theorem step_cases (s t : State) (h : step s = .next t) :
    (s.inputs = [] ∧ t = s) ∨
      ∃ x rest i, s.inputs = x :: rest ∧ x.decode = .ok i ∧ exec i (s.withInputs rest) = .next t := by
  unfold step at h
  split at h
  · next hin => cases h; exact .inl ⟨hin, rfl⟩
  · next x rest hin =>
    split at h
    · next i hd => exact .inr ⟨x, rest, i, hin, hd, h⟩
    · exact nomatch h

theorem runSteps_zero (s : State) : runSteps 0 s = .next s := rfl

theorem runSteps_succ (k : Nat) (s t : State) (h : step s = .next t) : runSteps (k + 1) s = runSteps k t := by
  have h' : Sys2Proof.core.step s = .next t := h
  have e := Host.Core.run.eq_2 Sys2Proof.core s k
  rw [h'] at e
  exact e

theorem runSteps_stops (k : Nat) (s : State) (h : ∀ t, step s ≠ .next t) (t : State) : runSteps (k + 1) s ≠ .next t := by
  intro e
  have e' := (Host.Core.run.eq_2 Sys2Proof.core s k).symm.trans e
  cases hs : Sys2Proof.core.step s with
  | next s' => exact h s' hs
  | fault r => rw [hs] at e'; exact nomatch e'
  | refused r => rw [hs] at e'; exact nomatch e'

/-- A run is a run of its first part followed by a run of the rest. -/
theorem runSteps_add (j k : Nat) (s t : State) (h : runSteps j s = .next t) : runSteps (j + k) s = runSteps k t := by
  induction j generalizing s with
  | zero => rw [runSteps_zero] at h; cases h; rw [Nat.zero_add]
  | succ j ih =>
    by_cases hs : ∃ s', step s = .next s'
    · obtain ⟨s', hs⟩ := hs
      rw [Nat.add_right_comm, runSteps_succ _ _ _ hs]
      rw [runSteps_succ _ _ _ hs] at h
      exact ih s' h
    · exact absurd h (runSteps_stops j s (fun t e => hs ⟨t, e⟩) t)

end Sys2Proof.Machine
end

