-- ==== Sys2Proof/Laws/Exec.lean ====
section
/-!
SUPPORT. What one transaction can do, once: `Effect i s t` lists every way `exec i s` answers a next state `t`, guards
included, and `exec_iff_effect` says that the list is exact. Later proofs take cases on it and do not unfold a meaning.
-/

namespace Sys2Proof.Machine

open Sys2Proof

/-- Every way a transaction answers a next state. -/
inductive Effect : Instr → State → State → Prop where
  | idle (i : Instr) (s : State) (mode : s.modeOf i.unit ≠ .run) (other : ∀ u ok, i ≠ .reset u ok) : Effect i s s
  | evLsx (val : BitVec 16) (s : State) (run : s.txu.mode = .run) : Effect (.evLsx val) s (s.writeLsx (axisOf val))
  | evLsy (val : BitVec 16) (s : State) (run : s.txu.mode = .run) : Effect (.evLsy val) s (s.writeLsy (axisOf val))
  | evRsx (val : BitVec 16) (s : State) (run : s.txu.mode = .run) : Effect (.evRsx val) s (s.writeRsx (axisOf val))
  | evRsy (val : BitVec 16) (s : State) (run : s.txu.mode = .run) : Effect (.evRsy val) s (s.writeRsy (axisOf val))
  | evBoost (val : BitVec 16) (s : State) (run : s.txu.mode = .run) : Effect (.evBoost val) s (s.writeBoost (boostOf val))
  | evId5 (val : BitVec 16) (s : State) (run : s.txu.mode = .run) : Effect (.evId5 val) s s
  | evId6 (val : BitVec 16) (s : State) (run : s.txu.mode = .run) : Effect (.evId6 val) s s
  | evId7 (val : BitVec 16) (s : State) (run : s.txu.mode = .run) : Effect (.evId7 val) s s
  | batchSent (s : State) (run : s.txu.mode = .run) : Effect (.batch true) s (s.emitDatagram s.datagram)
  | batchFailed (s : State) (run : s.txu.mode = .run) : Effect (.batch false) s (s.raise .sendFailed)
  | rxFrame (len : BitVec 16) (b : Datagram) (s : State) (d : Decoded) (run : s.rxu.mode = .run)
      (length : len.toNat = s.config.rxuWireLen.bytes) (fields : unpack b len.toNat = some d) :
      Effect (.rx len b) s (s.wdFrame (mapCommand d))
  | rxDropped (len : BitVec 16) (b : Datagram) (s : State) (run : s.rxu.mode = .run)
      (length : len.toNat ≠ s.config.rxuWireLen.bytes) : Effect (.rx len b) s (s.raise .malformedFrame)
  | tickCounted (s : State) (run : s.rxu.mode = .run) (below : s.rxu.wdCount + 1 < s.config.timeoutTicks) :
      Effect .tick s (s.writeWdCount (s.rxu.wdCount + 1) below)
  | tickExpired (s : State) (run : s.rxu.mode = .run) (reached : s.rxu.wdCount + 1 = s.config.timeoutTicks) :
      Effect .tick s s.wdExpire
  | shutdownTxu (s : State) (run : s.txu.mode = .run) : Effect (.shutdown .txu) s (s.writeTxuMode .halt)
  | shutdownRxu (s : State) (run : s.rxu.mode = .run) : Effect (.shutdown .rxu) s (s.writeRxuMode .halt)
  | resetTxuOk (s : State) : Effect (.reset .txu true) s (s.writeTxu (Txu.afterReset s.config true))
  | resetTxuFailed (s : State) :
      Effect (.reset .txu false) s ((s.writeTxu (Txu.afterReset s.config false)).raise .noDeviceFound)
  | resetRxuOk (s : State) : Effect (.reset .rxu true) s (s.writeRxu (Rxu.afterReset true) (s.resetInRange true))
  | resetRxuFailed (s : State) : Effect (.reset .rxu false) s ((s.writeRxu (Rxu.afterReset false) (s.resetInRange false)).raise .bindFailed)

theorem execRx_effect (len : BitVec 16) (b : Datagram) (s t : State) (h : execRx len b s = .next t) :
    Effect (.rx len b) s t := by
  unfold execRx at h
  rcases whenRunning_cases _ _ _ _ h with ⟨hm, e⟩ | ⟨run, e⟩
  · subst e; exact .idle _ _ hm fun _ _ e => nomatch e
  · split at e
    · next hl =>
      unfold acceptDatagram at e
      split at e
      · next d hd => cases e; exact .rxFrame len b s d run hl hd
      · exact nomatch e
    · next hl => cases e; exact .rxDropped len b s run hl

theorem takeTick_effect (s : State) (run : s.rxu.mode = .run) : Effect .tick s (takeTick s) := by
  unfold takeTick
  split
  · next below => exact .tickCounted s run below
  · next reached => exact .tickExpired s run (s.count_of_not_below reached)

theorem execTick_effect (s t : State) (h : execTick s = .next t) : Effect .tick s t := by
  unfold execTick at h
  rcases whenRunning_cases _ _ _ _ h with ⟨hm, e⟩ | ⟨run, e⟩
  · subst e; exact .idle _ _ hm fun _ _ e => nomatch e
  · cases e; exact takeTick_effect s run

theorem execReset_effect (u : UnitId) (ok : Bool) (s t : State) (h : execReset u ok s = .next t) :
    Effect (.reset u ok) s t := by
  cases u <;> cases ok <;> cases h
  · exact .resetTxuFailed s
  · exact .resetTxuOk s
  · exact .resetRxuFailed s
  · exact .resetRxuOk s

theorem execShutdown_effect (u : UnitId) (s t : State) (h : execShutdown u s = .next t) :
    Effect (.shutdown u) s t := by
  unfold execShutdown at h
  rcases whenRunning_cases _ _ _ _ h with ⟨hm, e⟩ | ⟨run, e⟩
  · subst e; exact .idle _ _ hm fun _ _ e => nomatch e
  · cases u <;> cases e
    · exact .shutdownTxu s run
    · exact .shutdownRxu s run

theorem execBatch_effect (sendOk : Bool) (s t : State) (h : execBatch sendOk s = .next t) :
    Effect (.batch sendOk) s t := by
  unfold execBatch at h
  rcases whenRunning_cases _ _ _ _ h with ⟨hm, e⟩ | ⟨run, e⟩
  · subst e; exact .idle _ _ hm fun _ _ e => nomatch e
  · cases sendOk <;> cases e
    · exact .batchFailed s run
    · exact .batchSent s run

/-- The eight EVENTs: out of RUN nothing, in RUN the one register write. -/
theorem whenRunning_event (i : Instr) (f : State → State) (s t : State) (hu : i.unit = .txu)
    (other : ∀ u ok, i ≠ .reset u ok) (h : whenRunning .txu (fun s => .next (f s)) s = .next t)
    (effect : s.txu.mode = .run → Effect i s (f s)) : Effect i s t := by
  rcases whenRunning_cases _ _ _ _ h with ⟨hm, e⟩ | ⟨run, e⟩
  · subst e; exact .idle _ _ (hu ▸ hm) other
  · cases e; exact effect run

/-- The inversion lemma of `exec`. -/
theorem effect_of_exec (i : Instr) (s t : State) (h : exec i s = .next t) : Effect i s t := by
  cases i with
  | evLsx val =>
    exact whenRunning_event _ (·.writeLsx (axisOf val)) s t rfl (fun _ _ e => nomatch e) h (.evLsx val s)
  | evLsy val =>
    exact whenRunning_event _ (·.writeLsy (axisOf val)) s t rfl (fun _ _ e => nomatch e) h (.evLsy val s)
  | evRsx val =>
    exact whenRunning_event _ (·.writeRsx (axisOf val)) s t rfl (fun _ _ e => nomatch e) h (.evRsx val s)
  | evRsy val =>
    exact whenRunning_event _ (·.writeRsy (axisOf val)) s t rfl (fun _ _ e => nomatch e) h (.evRsy val s)
  | evBoost val =>
    exact whenRunning_event _ (·.writeBoost (boostOf val)) s t rfl (fun _ _ e => nomatch e) h (.evBoost val s)
  | evId5 val => exact whenRunning_event _ _ s t rfl (fun _ _ e => nomatch e) h (.evId5 val s)
  | evId6 val => exact whenRunning_event _ _ s t rfl (fun _ _ e => nomatch e) h (.evId6 val s)
  | evId7 val => exact whenRunning_event _ _ s t rfl (fun _ _ e => nomatch e) h (.evId7 val s)
  | batch sendOk => exact execBatch_effect sendOk s t h
  | rx len b => exact execRx_effect len b s t h
  | tick => exact execTick_effect s t h
  | shutdown u => exact execShutdown_effect u s t h
  | reset u ok => exact execReset_effect u ok s t h

/-- `Effect` answers: every listed way is a way of `exec`. -/
theorem exec_of_effect (i : Instr) (s t : State) (h : Effect i s t) : exec i s = .next t := by
  cases h with
  | idle _ _ mode other =>
    cases i with
    | reset u ok => exact absurd rfl (other u ok)
    | _ => exact if_neg mode
  | evLsx val _ run => exact if_pos run
  | evLsy val _ run => exact if_pos run
  | evRsx val _ run => exact if_pos run
  | evRsy val _ run => exact if_pos run
  | evBoost val _ run => exact if_pos run
  | evId5 val _ run => exact if_pos run
  | evId6 val _ run => exact if_pos run
  | evId7 val _ run => exact if_pos run
  | batchSent _ run => exact if_pos run
  | batchFailed _ run => exact if_pos run
  | rxFrame len b _ d run length fields =>
    refine (if_pos run).trans ((if_pos length).trans ?_)
    simp [acceptDatagram, fields]
  | rxDropped len b _ run length => exact (if_pos run).trans (if_neg length)
  | tickCounted _ run below =>
    exact (if_pos run).trans (congrArg _ (dif_pos below))
  | tickExpired _ run reached =>
    exact (if_pos run).trans (congrArg _ (dif_neg (Nat.not_lt_of_le reached.ge)))
  | shutdownTxu _ run => exact if_pos run
  | shutdownRxu _ run => exact if_pos run
  | resetTxuOk => rfl
  | resetTxuFailed => rfl
  | resetRxuOk => rfl
  | resetRxuFailed => rfl

/-- `exec i s` answers `t` exactly in the ways `Effect` lists. -/
theorem exec_iff_effect (i : Instr) (s t : State) : exec i s = .next t ↔ Effect i s t :=
  ⟨effect_of_exec i s t, exec_of_effect i s t⟩

end Sys2Proof.Machine
end

