-- ==== Sys2Proof/Laws/PerInstr.lean ====
section
/-!
SUPPORT. Statements made of every constructor of `Instr`, one lemma each: the word of a transaction lies in its own row of
spec/opcode_table.json, and that row is in the table.
-/

namespace Sys2Proof.Laws.TableRow

open Sys2Proof

/-- A word lies in a row: its masked bits are the row's match. -/
theorem row_of_toNat (w : TxnWord) (k : Nat) (hk : k < 2 ^ 8) (h : w.toNat / 2 ^ 16 = k) :
    w &&& 0xFF0000#24 = BitVec.ofNat 24 (k * 2 ^ 16) := by
  apply BitVec.eq_of_toNat_eq
  have e : (w &&& 0xFF0000#24).toNat = w.toNat &&& ((2 ^ 8 - 1) <<< 16) := BitVec.toNat_and _ _
  have r : (BitVec.ofNat 24 (k * 2 ^ 16)).toNat = k <<< 16 := by
    rw [BitVec.toNat_ofNat, Nat.mod_eq_of_lt (by omega), Nat.shiftLeft_eq]
  rw [e, r, ← h, ← Nat.shiftRight_eq_div_pow]
  apply Nat.eq_of_testBit_eq
  intro i
  rw [Nat.testBit_and, Nat.testBit_shiftLeft, Nat.testBit_shiftLeft, Nat.testBit_two_pow_sub_one, Nat.testBit_shiftRight]
  by_cases hi : i ≥ 16
  · by_cases hj : i - 16 < 8
    · simp [hi, hj, Nat.add_sub_cancel' hi]
    · have hz : w.toNat.testBit i = false :=
        Nat.testBit_lt_two_pow (lt_of_lt_of_le w.isLt (Nat.pow_le_pow_right (by omega) (by omega)))
      simp [Nat.add_sub_cancel' hi, hz]
  · simp [hi]

/-- The family: a word of the instruction lies in the instruction's own row, which the table has. -/
def Statement (i : Instr) : Prop := i.word &&& i.rowMask = i.rowMatch ∧ (i.rowMatch, i.rowMask) ∈ opcodeRows

theorem event_row (id : BitVec 3) (val : BitVec 16) :
    eventWord id val &&& 0xFF0000#24 = BitVec.ofNat 24 (id.toNat * 4 * 2 ^ 16) := by
  have := id.isLt
  have := val.isLt
  refine row_of_toNat _ _ (by omega) ?_
  rw [eventWord_toNat]
  omega

theorem evLsx (val : BitVec 16) : Statement (.evLsx val) := ⟨event_row 0 val, (by decide : (0x000000#24, 0xFF0000#24) ∈ opcodeRows)⟩
theorem evLsy (val : BitVec 16) : Statement (.evLsy val) := ⟨event_row 1 val, (by decide : (0x040000#24, 0xFF0000#24) ∈ opcodeRows)⟩
theorem evRsx (val : BitVec 16) : Statement (.evRsx val) := ⟨event_row 2 val, (by decide : (0x080000#24, 0xFF0000#24) ∈ opcodeRows)⟩
theorem evRsy (val : BitVec 16) : Statement (.evRsy val) := ⟨event_row 3 val, (by decide : (0x0C0000#24, 0xFF0000#24) ∈ opcodeRows)⟩
theorem evBoost (val : BitVec 16) : Statement (.evBoost val) := ⟨event_row 4 val, (by decide : (0x100000#24, 0xFF0000#24) ∈ opcodeRows)⟩
theorem evId5 (val : BitVec 16) : Statement (.evId5 val) := ⟨event_row 5 val, (by decide : (0x140000#24, 0xFF0000#24) ∈ opcodeRows)⟩
theorem evId6 (val : BitVec 16) : Statement (.evId6 val) := ⟨event_row 6 val, (by decide : (0x180000#24, 0xFF0000#24) ∈ opcodeRows)⟩
theorem evId7 (val : BitVec 16) : Statement (.evId7 val) := ⟨event_row 7 val, (by decide : (0x1C0000#24, 0xFF0000#24) ∈ opcodeRows)⟩
theorem batch (sendOk : Bool) : Statement (.batch sendOk) := by cases sendOk <;> exact ⟨by decide, by decide⟩

theorem rx (len : BitVec 16) (payload : Datagram) : Statement (.rx len payload) := by
  refine ⟨row_of_toNat _ 64 (by decide) ?_, (by decide : (0x400000#24, 0xFF0000#24) ∈ opcodeRows)⟩
  have := len.isLt
  rw [rxWord_toNat]
  omega

theorem tick : Statement .tick := ⟨by decide, by decide⟩
theorem shutdown (unit : UnitId) : Statement (.shutdown unit) := by cases unit <;> exact ⟨by decide, by decide⟩
theorem reset (unit : UnitId) (ok : Bool) : Statement (.reset unit ok) := by
  cases unit <;> cases ok <;> exact ⟨by decide, by decide⟩

end Sys2Proof.Laws.TableRow
end

