-- ==== Sys2Proof/Tests/Slice0.lean ====
section
/-!
SUPPORT. Small tests on fixed values, expected results from spec 95 (section 2) and the rules' own examples, and for each
obligation that has hypotheses a witness: concrete states and operands that meet them all.
-/

namespace Sys2Proof.Tests

open Sys2Proof Sys2Proof.Machine

/-! ## Small states (spec 95, the values its vectors assume) -/

/-- `WIRE_LEN` of both units, `TIMEOUT_TICKS` (with a `TICK_HZ` that agrees), and the assumed reset values. -/
def config (w : WireLen) (timeoutTicks : ℕ+) : Config where
  txuWireLen := w
  rxuWireLen := w
  timeoutS := 1
  tickHz := timeoutTicks
  timeoutTicks := timeoutTicks
  axisResetLsx := 0x80
  axisResetLsy := 0x80
  axisResetRsx := 0x80
  axisResetRsy := 0x80
  boostReset := false
  pwmMode := 0
  actInitServo := 0
  actInitMotor := 0
  timing := ⟨one_pos, Nat.cast_pos.mpr timeoutTicks.pos, timeoutTicks.pos, by norm_num, by norm_num⟩

/-- Both units in RUN from their reset values. -/
def running (w : WireLen) (timeoutTicks : ℕ+) : State where
  config := config w timeoutTicks
  txu := Txu.afterReset (config w timeoutTicks) true
  rxu := Rxu.afterReset true
  inputs := []
  outputs := []
  countInRange := timeoutTicks.pos

/-- `running`, with both units in a given mode. -/
def inMode (m : Mode) : State := ((running .w8 4).writeTxuMode m).writeRxuMode m

/-- `running` with a given watchdog. -/
def watching (timeoutTicks : ℕ+) (wd : WdState) (count : Nat) (inRange : count < timeoutTicks := by decide) : State :=
  ((running .w8 timeoutTicks).writeWdState wd).writeWdCount count inRange

/-- `running` with a given ControlState. -/
def control (w : WireLen) (x y : Byte) (boost : Bool) : State := (((running w 4).writeLsx x).writeRsy y).writeBoost boost

/-- Both units in RUN, built with different `WIRE_LEN` (P5). -/
def mismatched : State := { running .w8 2 with config := { config .w8 2 with txuWireLen := .w3 } }

/-- A failsafe state that meets the invariants: the last command was (0, 0). -/
def failed : State := (watching 4 .active 3).wdExpire

/-- One field of the next state. -/
def after {α : Type} (field : State → α) : Host.Outcome State Fault Refusal → Option α
  | .next t => some (field t)
  | .fault _ => none
  | .refused _ => none

/-- The refused reason of a decoding, if it is refused. -/
def refusedFor : Except Reject Instr → Option Reject
  | .ok _ => none
  | .error why => some why

/-- The instruction of a decoding, if there is one. -/
def decoded : Except Reject Instr → Option Instr
  | .ok i => some i
  | .error _ => none

/-! ## WellFormed: one ill-formed term for its check -/

theorem test_wf_refuses_short_payload : Instr.wf (.rx 3 [0, 0]) = false := by decide
theorem test_wf_refuses_long_payload : Instr.wf (.rx 0 [0]) = false := by decide
theorem test_wf_accepts_payload : Instr.wf (.rx 3 [1, 2, 3]) = true := by decide
theorem test_short_buffer_faults : (match exec (.rx 8 [0]) (running .w8 4) with
    | .fault r => decide (r = Fault.noSuchByte) | .next _ => false | .refused _ => false) = true := by decide

/-! ## Decoding: words written out from R66 to R68, and spec 95 L2-1 -/

theorem test_decode_evLsx : decoded (decode .txu 0b000_000_00_0000000011111111#24 []) = some (.evLsx 255) := by decide
theorem test_decode_evLsy : decoded (decode .txu 0b000_001_00_0000000000000111#24 []) = some (.evLsy 7) := by decide
theorem test_decode_evRsx : decoded (decode .txu 0b000_010_00_0000000000000111#24 []) = some (.evRsx 7) := by decide
theorem test_decode_evRsy : decoded (decode .txu 0b000_011_00_0000000111111111#24 []) = some (.evRsy 0x1FF) := by decide
theorem test_decode_evBoost : decoded (decode .txu 0b000_100_00_1111111111111111#24 []) = some (.evBoost 0xFFFF) := by decide
theorem test_decode_evId5 : decoded (decode .txu 0b000_101_00_0000000000000111#24 []) = some (.evId5 7) := by decide
theorem test_decode_evId6 : decoded (decode .txu 0b000_110_00_1111111111111111#24 []) = some (.evId6 0xFFFF) := by decide
theorem test_decode_evId7 : decoded (decode .txu 0b000_111_00_0000000000000000#24 []) = some (.evId7 0) := by decide
theorem test_decode_batch : decoded (decode .txu 0b001_00000000000000000000_1#24 []) = some (.batch true) ∧
    decoded (decode .txu 0b001_00000000000000000000_0#24 []) = some (.batch false) := by decide
theorem test_decode_rx : decoded (decode .rxu 0b010_00000_0000000000001000#24 [1, 2, 3, 4, 5, 6, 7, 8]) =
    some (.rx 8 [1, 2, 3, 4, 5, 6, 7, 8]) ∧ decoded (decode .rxu 0x400000#24 []) = some (.rx 0 []) := by decide
theorem test_decode_tick : decoded (decode .rxu 0b011_000000000000000000000#24 []) = some .tick := by decide
theorem test_decode_shutdown : decoded (decode .txu 0b100_000000000000000000000#24 []) = some (.shutdown .txu) ∧
    decoded (decode .rxu 0x800000#24 []) = some (.shutdown .rxu) := by decide
theorem test_decode_reset : decoded (decode .txu 0b101_00000000000000000000_1#24 []) = some (.reset .txu true) ∧
    decoded (decode .rxu 0xA00000#24 []) = some (.reset .rxu false) := by decide

theorem test_refuses_reserved_kinds : refusedFor (decode .txu 0xC00000#24 []) = some .reservedKind ∧
    refusedFor (decode .rxu 0xE12345#24 []) = some .reservedKind := by decide
theorem test_refuses_reserved_bits : refusedFor (decode .txu 0x030000#24 []) = some .reservedBits ∧
    refusedFor (decode .txu 0x200003#24 []) = some .reservedBits ∧
    refusedFor (decode .rxu 0x410008#24 [0, 0, 0, 0, 0, 0, 0, 0]) = some .reservedBits ∧
    refusedFor (decode .rxu 0x600001#24 []) = some .reservedBits := by decide
theorem test_refuses_wrong_unit : refusedFor (decode .txu 0x400008#24 [0, 0, 0, 0, 0, 0, 0, 0]) = some .wrongUnit ∧
    refusedFor (decode .rxu 0x000000#24 []) = some .wrongUnit ∧ refusedFor (decode .txu 0x600000#24 []) = some .wrongUnit := by
  decide
theorem test_refuses_payload_mismatch : refusedFor (decode .rxu 0x400003#24 [0, 0]) = some .payloadMismatch ∧
    refusedFor (decode .rxu 0x600000#24 [0]) = some .payloadMismatch := by decide

theorem test_table_words : decodeTableWord 24 0x0000FF = some (.evLsx 255) ∧ decodeTableWord 24 0x600000 = some .tick ∧
    decodeTableWord 24 0x400003 = some (.rx 3 [0, 0, 0]) ∧ decodeTableWord 24 0x030000 = none := by decide
theorem test_table_word_with_payload : decodeTableWord 48 0x7F1201400003 = some (.rx 3 [0x01, 0x12, 0x7F]) := by decide
theorem test_step_runs_fetch_word : after (·.rxu.wdCount) (step ((running .w8 4).withFetchWord 24 0x600000)) = some 1 := by
  decide
theorem test_step_from_reset : ∃ t, step (State.reset.withFetchWord 24 0x600000) = .next t := ⟨_, rfl⟩

/-! ## One step of each transaction (spec 95, L2-2 to L2-8) -/

theorem test_evLsx_truncates : after (·.txu.lsx) (exec (.evLsx 0x1FF) (running .w8 4)) = some 0xFF := by decide
theorem test_evLsx_negative : after (·.txu.lsx) (exec (.evLsx (eventValue (-128))) (running .w8 4)) = some 0x80 := by decide
theorem test_evLsy : after (fun t => (t.txu.lsy, t.frame24)) (exec (.evLsy 7) (running .w8 4)) = some (0x07, 0x008080) := by
  decide
theorem test_evRsx : after (fun t => (t.txu.rsx, t.frame24)) (exec (.evRsx 7) (running .w8 4)) = some (0x07, 0x008080) := by
  decide
theorem test_evRsy : after (fun t => (t.txu.rsy, t.txu.lsx)) (exec (.evRsy 0x34) (running .w8 4)) = some (0x34, 0x80) := by
  decide
theorem test_evBoost_nonzero : after (·.txu.boost) (exec (.evBoost 2) (running .w8 4)) = some true := by decide
theorem test_evBoost_zero : after (·.txu.boost) (exec (.evBoost 0) (control .w8 0 0 true)) = some false := by decide
theorem test_evId5 : after (·.txu) (exec (.evId5 7) (running .w8 4)) = some (running .w8 4).txu := by decide
theorem test_evId6 : after (·.txu) (exec (.evId6 0xFFFF) (running .w8 4)) = some (running .w8 4).txu := by decide
theorem test_evId7 : after (·.txu) (exec (.evId7 1) (running .w8 4)) = some (running .w8 4).txu := by decide
theorem test_batch_sends : after (·.outputs) (exec (.batch true) (control .w8 0x12 0x34 true)) =
    some [.dgOut [0x00, 0x00, 0x00, 0x00, 0x00, 0x01, 0x12, 0x34]] := by decide
theorem test_batch_fails : after (·.outputs) (exec (.batch false) (control .w3 0xFF 0 false)) = some [.logOut .sendFailed] := by
  decide
theorem test_rx_ignores_reserved_bits :
    after (·.outputs) (exec (.rx 8 [0xDE, 0xAD, 0xBE, 0xEF, 0x12, 0x34, 0x56, 0x78]) (running .w8 4)) =
      some [.cmdOut ⟨169, 1505⟩] := by decide
theorem test_rx_three_bytes_with_boost :
    after (fun t => (t.rxu.outServo, t.rxu.outMotor)) (exec (.rx 3 [0x01, 0x12, 0x7F]) (running .w3 4)) = some (201, 1501) := by
  decide
theorem test_tick_counts : after (fun t => (t.rxu.wdCount, t.outputs)) (exec .tick (watching 4 .active 1)) = some (2, []) := by
  decide
theorem test_tick_expires : after (fun t => (t.rxu.wdState, t.outputs)) (exec .tick (watching 4 .failsafe 3)) =
    some (.failsafe, [.cmdOut ⟨0, 0⟩, .logOut .receiveTimeout]) := by decide
theorem test_shutdown : after (fun t => (t.rxu.mode, t.txu.mode)) (exec (.shutdown .rxu) (running .w8 4)) = some (.halt, .run) := by
  decide
theorem test_reset_fails : after (fun t => (t.txu.mode, t.outputs)) (exec (.reset .txu false) (control .w8 1 2 true)) =
    some (.fatal, [.logOut .noDeviceFound]) := by decide
theorem test_reset_restarts : after (·.rxu) (exec (.reset .rxu true) failed) = some ⟨.run, .active, 0, 0, 0, false⟩ := by decide
theorem test_halted_rx : after (fun t => (t.rxu, t.outputs)) (exec (.rx 8 [0, 0, 0, 0, 0, 0, 0, 0]) (inMode .halt)) =
    some ((inMode .halt).rxu, []) := by decide
theorem test_floating_point : linMapFloat binary64 235 0 255 1400 1600 = 1584 ∧ linMapFloat binary32 85 0 255 1000 2000 = 1333 := by
  decide
theorem test_boot_calls : bootedBy (config .w8 4) [.setPwmMode .servo 0, .setPwmRange .servo 2000, .setPwmFrequency .servo 50,
    .setPwmMode .motor 0, .setPwmRange .motor 20000, .setPwmFrequency .motor 50] := by decide

/-! ## Witnesses: the hypotheses of each obligation, met together -/

theorem witness_AxisEventStoresLowByte : (running .w8 4).txu.mode = .run ∧
    exec (.evLsx 0xFFFF) (running .w8 4) = .next (control .w8 0xFF 0x80 false) ∧
    exec (.evLsy 7) (running .w8 4) = .next ((running .w8 4).writeLsy 7) ∧
    exec (.evRsx 7) (running .w8 4) = .next ((running .w8 4).writeRsx 7) ∧
    exec (.evRsy 0) (running .w8 4) = .next (control .w8 0x80 0 false) := ⟨rfl, rfl, rfl, rfl, rfl⟩
theorem witness_BoostEventStoresTruth : (running .w8 4).txu.mode = .run := rfl
theorem witness_OtherEventHasNoEffect : exec (.evId5 7) (running .w8 4) = .next (running .w8 4) ∧
    exec (.evId6 7) (inMode .off) = .next (inMode .off) ∧ exec (.evId7 0) (inMode .halt) = .next (inMode .halt) :=
  ⟨rfl, rfl, rfl⟩
theorem witness_BatchMakesOneSendAttempt : (control .w3 1 2 true).txu.mode = .run ∧
    exec (.batch false) (control .w3 1 2 true) = .next ((control .w3 1 2 true).raise .sendFailed) := ⟨rfl, rfl⟩
theorem witness_OnlyBatchEmitsDatagrams :
    exec (.batch true) (control .w3 1 2 true) = .next ((control .w3 1 2 true).emitDatagram [1, 1, 2]) ∧
    exec .tick (inMode .fatal) = .next (inMode .fatal) := ⟨rfl, rfl⟩
theorem witness_SerializeIsBigEndian : (7 < WireLen.w8.bytes ∧ 2 < WireLen.w3.bytes) ∧ 4 < 5 := by decide
theorem witness_EncoderIsInjective : pack 255 255 true = pack 0xFF 0xFF true ∧
    serialize 0x01FFFF#24 WireLen.w3.bytes = serialize 0x01FFFF#24 WireLen.w3.bytes ∧
    (running .w8 4).txu.mode = .run ∧ ((running .w8 4).writeLsy 7).txu.mode = .run ∧
    (running .w8 4).txu.lsx = ((running .w8 4).writeLsy 7).txu.lsx ∧ (running .w8 4).txu.rsy = ((running .w8 4).writeLsy 7).txu.rsy ∧
    (running .w8 4).txu.boost = ((running .w8 4).writeLsy 7).txu.boost ∧
    (running .w8 4).config.txuWireLen = ((running .w8 4).writeLsy 7).config.txuWireLen ∧
    (running .w8 4).datagrams = ((running .w8 4).writeLsy 7).datagrams ∧
    exec (.batch true) (running .w8 4) = .next ((running .w8 4).emitDatagram [0, 0, 0, 0, 0, 0, 0x80, 0x80]) ∧
    exec (.batch true) ((running .w8 4).writeLsy 7) =
      .next (((running .w8 4).writeLsy 7).emitDatagram [0, 0, 0, 0, 0, 0, 0x80, 0x80]) :=
  ⟨rfl, rfl, rfl, rfl, rfl, rfl, rfl, rfl, rfl, rfl, rfl⟩
theorem witness_UnpackReadsThreeBytes :
    (([] : Datagram).length + 3 = WireLen.w3.bytes ∧ ([0xDE, 0xAD, 0xBE, 0xEF, 0x12] : Datagram).length + 3 = WireLen.w8.bytes) ∧
    ([0xFF, 0xFF, 0xFF] : Datagram).length = WireLen.w3.bytes := by decide
theorem witness_RxAppliesMappedCommand : (failed.rxu.mode = .run ∧ (8#16).toNat = failed.config.rxuWireLen.bytes ∧
      ([0xFF, 0xFF, 0xFF, 0xFF, 0xFF] : Datagram).length + 3 = failed.config.rxuWireLen.bytes) ∧
    ((running .w3 1).rxu.mode = .run ∧ (3#16).toNat = (running .w3 1).config.rxuWireLen.bytes ∧
      ([] : Datagram).length + 3 = (running .w3 1).config.rxuWireLen.bytes) := by decide
theorem witness_RxOfWrongLengthIsDropped : (running .w8 4).rxu.mode = .run ∧
    (7#16).toNat ≠ (running .w8 4).config.rxuWireLen.bytes ∧ (9#16).toNat ≠ (running .w8 4).config.rxuWireLen.bytes ∧
    (0#16).toNat ≠ (running .w8 4).config.rxuWireLen.bytes ∧ (8#16).toNat ≠ (running .w3 4).config.rxuWireLen.bytes := by decide
theorem witness_ServoMapValues : (254 : Byte) ≠ 255 ∧ (0 : Byte) ≠ 255 := by decide
theorem witness_MotorMapValues : (254 : Byte) ≠ 255 ∧ (0 : Byte) ≠ 255 := by decide
theorem witness_MapperLaws : (254 : Byte) ≠ 255 ∧ (running .w3 4).rxu.mode = .run ∧ (watching 4 .failsafe 3).rxu.mode = .run ∧
    (running .w8 2).config.rxuWireLen = (watching 4 .failsafe 3).config.rxuWireLen ∧
    (8#16).toNat = (running .w8 2).config.rxuWireLen.bytes ∧
    exec (.rx 8 [0, 0, 0, 0, 0, 0, 0xFF, 0]) (running .w8 2) = .next ((running .w8 2).wdFrame ⟨90, 1600⟩) ∧
    exec (.rx 8 [0, 0, 0, 0, 0, 0, 0xFF, 0]) (watching 4 .failsafe 3) = .next ((watching 4 .failsafe 3).wdFrame ⟨90, 1600⟩) :=
  ⟨by decide, rfl, rfl, rfl, rfl, rfl, rfl⟩
theorem witness_TickCountsBelowTimeout : (watching 4 .active 2).rxu.mode = .run ∧
    (watching 4 .active 2).rxu.wdCount + 1 < (watching 4 .active 2).config.timeoutTicks ∧
    (running .w8 1).config.timeoutTicks = 1 := by decide
theorem witness_TickExpiresAtTimeout : ((watching 4 .failsafe 3).rxu.mode = .run ∧
      (watching 4 .failsafe 3).rxu.wdCount + 1 = (watching 4 .failsafe 3).config.timeoutTicks) ∧
    ((watching 1 .active 0).rxu.mode = .run ∧
      (watching 1 .active 0).rxu.wdCount + 1 = (watching 1 .active 0).config.timeoutTicks) := by decide
theorem witness_MuxFollowsWatchdogState :
    (exec .tick (watching 4 .active 3) = .next failed ∧ failed.commands ≠ (watching 4 .active 3).commands) ∧
    (exec (.rx 3 [0, 0, 0]) (running .w3 4) = .next ((running .w3 4).wdFrame ⟨210, 1600⟩) ∧
      ((running .w3 4).wdFrame ⟨210, 1600⟩).commands ≠ (running .w3 4).commands) :=
  ⟨⟨rfl, by decide⟩, ⟨rfl, by decide⟩⟩
theorem witness_WatchdogStateChangesOnlyAsTabled :
    (exec .tick (watching 4 .active 3) = .next failed ∧ (watching 4 .active 3).rxu.wdState = .active ∧
      failed.rxu.wdState = .failsafe) ∧
    (exec (.rx 8 [0, 0, 0, 0, 0, 0, 0, 0]) failed = .next (failed.wdFrame ⟨210, 1600⟩) ∧ failed.rxu.wdState = .failsafe ∧
      (failed.wdFrame ⟨210, 1600⟩).rxu.wdState = .active) ∧
    (exec (.reset .rxu true) failed = .next (failed.writeRxu (Rxu.afterReset true) (State.resetInRange _ _)) ∧
      (failed.writeRxu (Rxu.afterReset true) (State.resetInRange _ _)).rxu.wdState = .active) :=
  ⟨⟨rfl, rfl, rfl⟩, ⟨rfl, rfl, rfl⟩, ⟨rfl, rfl⟩⟩

/-- P2's shape, with `TIMEOUT_TICKS` = 2 and an ignored datagram between the TICKs. -/
def quiet : List Instr := [.tick, .rx 1 [0], .evLsx 1, .tick]

theorem witness_FailsafeTriggersAtTimeout_frame :
    (watching 2 .active 1).rxu.mode = .run ∧
    (8#16).toNat = (watching 2 .active 1).config.rxuWireLen.bytes ∧
    ([0, 0, 0, 0, 0, 0, 0x80, 0x7F] : Datagram).length = (8#16).toNat ∧
    unpack [0, 0, 0, 0, 0, 0, 0x80, 0x7F] (8#16).toNat = some ⟨false, 0x80, 0x80⟩ ∧
    (∀ i ∈ quiet, i.wf = true ∧ keepsSilence (watching 2 .active 1).config.rxuWireLen i = true) ∧
    quiet.count .tick = (watching 2 .active 1).config.timeoutTicks ∧ quiet.getLast? = some .tick ∧
    ((watching 2 .active 1).offer
        ((Instr.rx 8 [0, 0, 0, 0, 0, 0, 0x80, 0x7F] :: quiet).map encode)).inputs =
      (Instr.rx 8 [0, 0, 0, 0, 0, 0, 0x80, 0x7F] :: quiet).map encode ++ [] := by decide
theorem witness_FailsafeTriggersAtTimeout_reset :
    (∀ i ∈ quiet, i.wf = true ∧ keepsSilence (inMode .off).config.rxuWireLen i = true) ∧
    quiet.count .tick = (config .w8 2).timeoutTicks ∧ quiet.getLast? = some .tick ∧
    ((running .w8 2).offer ((Instr.reset .rxu true :: quiet).map encode ++ [encode .tick])).inputs =
      (Instr.reset .rxu true :: quiet).map encode ++ [encode .tick] := by decide
theorem witness_FirstFrameEndsFailsafe : failed.rxu.mode = .run ∧ failed.rxu.wdState = .failsafe ∧
    (8#16).toNat = failed.config.rxuWireLen.bytes ∧ ([0, 0, 0, 0, 0, 0, 0, 0xFF] : Datagram).length = (8#16).toNat := by decide
theorem witness_FailsafeLatencyBound :
    (0 : ℚ) ≤ 1 / 8 ∧ (1 / 8 : ℚ) < 0 + 1 / (running .w8 2).config.tickHz ∧
    (running .w8 2).rxu.mode = .run ∧ (running .w8 2).rxu.wdCount = 0 ∧
    ((running .w8 2).offer [encode .tick, encode .tick, encode .tick]).inputs =
      List.replicate (running .w8 2).config.timeoutTicks (encode .tick) ++ [encode .tick] :=
  ⟨by norm_num, by norm_num [running, config], rfl, rfl, rfl⟩
theorem witness_ShutdownHaltsOneUnit : ((running .w8 4).txu.mode = .run ∧ failed.rxu.mode = .run) ∧
    (exec (.shutdown .rxu) failed = .next (failed.writeRxuMode .halt) ∧ HeldDutyInvariant failed ∧ failed.rxu.mode ≠ .off ∧
      failed.rxu.outValid = true) ∧
    (exec (.shutdown .rxu) (running .w8 4) = .next ((running .w8 4).writeRxuMode .halt) ∧ (running .w8 4).commands = []) ∧
    (failed.modeOf (Instr.unit .tick) = .run ∧
      exec (.shutdown (Instr.unit .tick)) failed = .next (failed.writeRxuMode .halt) ∧ ∀ u ok, Instr.tick ≠ .reset u ok) :=
  ⟨⟨rfl, rfl⟩, ⟨rfl, by decide, by decide, rfl⟩, ⟨rfl, rfl⟩, rfl, rfl, fun _ _ e => (nomatch e)⟩
theorem witness_IdleUnitIgnoresAllButReset :
    ((inMode .off).modeOf (Instr.unit .tick) ≠ .run ∧ (inMode .fatal).modeOf (Instr.unit (.batch true)) ≠ .run ∧
      (inMode .halt).modeOf (Instr.unit (.shutdown .rxu)) ≠ .run) ∧
    (∀ u ok, Instr.tick ≠ .reset u ok) ∧ (∀ u ok, Instr.batch true ≠ .reset u ok) ∧
    (∀ u ok, Instr.shutdown .rxu ≠ .reset u ok) :=
  ⟨by decide, fun _ _ e => (nomatch e), fun _ _ e => (nomatch e), fun _ _ e => (nomatch e)⟩
theorem witness_ModeChangesOnlyByShutdownAndReset :
    exec (.shutdown .txu) (running .w8 4) = .next ((running .w8 4).writeTxuMode .halt) ∧
    exec (.reset .rxu true) (inMode .off) = .next ((inMode .off).writeRxu (Rxu.afterReset true) (State.resetInRange _ _)) := ⟨rfl, rfl⟩

/-- A power-on state of this hardware whose registers hold something, before both units' RESET. -/
def poweredOn : State where
  config := Config.thisHardware
  txu := ⟨.off, 1, 2, 3, 4, true⟩
  rxu := ⟨.off, .failsafe, 0, 7, 8, true⟩
  inputs := [encode (.reset .txu true), encode (.reset .rxu true)]
  outputs := []
  countInRange := Config.thisHardware.timing.2.2.1

theorem witness_ResetFromPowerOnGivesResetState : poweredOn.atPowerOn ∧ poweredOn.config = Config.thisHardware ∧
    poweredOn.inputs = [encode (.reset .txu true), encode (.reset .rxu true)] := ⟨⟨rfl, rfl, rfl⟩, rfl, rfl⟩
theorem witness_FirstDatagramCarriesResetValues :
    ((inMode .off).offer [encode (.reset .txu true), encode (.batch true), encode .tick]).inputs =
      encode (.reset .txu true) :: encode (.batch true) :: [encode .tick] := rfl
theorem witness_ErrorsRaisedOnlyByTheirTransaction :
    exec (.reset .txu false) (inMode .off) = .next (((inMode .off).writeTxu ⟨.fatal, 0x80, 0x80, 0x80, 0x80, false⟩).raise .noDeviceFound) ∧
    exec (.batch false) (running .w8 4) = .next ((running .w8 4).raise .sendFailed) ∧
    exec (.reset .rxu false) (inMode .off) = .next (((inMode .off).writeRxu (Rxu.afterReset false) (State.resetInRange _ _)).raise .bindFailed) ∧
    exec .tick (watching 4 .active 3) = .next failed ∧
    exec (.rx 0 []) (running .w8 4) = .next ((running .w8 4).raise .malformedFrame) := ⟨rfl, rfl, rfl, rfl, rfl⟩
theorem witness_EveryTransactionCompletes : Instr.wf (.rx 0 []) = true ∧ Instr.wf (.rx 8 [0, 0, 0, 0, 0, 0, 0, 0]) = true ∧
    Instr.wf .tick = true := by decide
theorem witness_FrameOfEvents :
    Instr.evBoost 2 ∈ [Instr.evLsx 2, .evLsy 2, .evRsx 2, .evRsy 2, .evBoost 2, .evId5 2, .evId6 2, .evId7 2] ∧
    exec (.evBoost 2) (running .w8 4) = .next ((running .w8 4).writeBoost true) := ⟨by decide, rfl⟩
theorem witness_FrameOfBatch : exec (.batch false) (running .w8 4) = .next ((running .w8 4).raise .sendFailed) := rfl
theorem witness_FrameOfRxAndTick :
    exec (.rx 3 [0, 0, 0]) (running .w3 4) = .next ((running .w3 4).wdFrame ⟨210, 1600⟩) ∧
    (exec (.rx 7 []) (running .w8 4) = .next ((running .w8 4).raise .malformedFrame) ∧
      (7#16).toNat ≠ (running .w8 4).config.rxuWireLen.bytes) ∧
    (exec .tick (watching 4 .active 2) = .next (watching 4 .active 3) ∧
      (watching 4 .active 2).rxu.wdCount + 1 < (watching 4 .active 2).config.timeoutTicks) :=
  ⟨rfl, ⟨rfl, by decide⟩, ⟨rfl, by decide⟩⟩
theorem witness_FrameOfShutdownAndReset :
    (Instr.shutdown .txu = .shutdown .txu ∧ exec (.shutdown .txu) (running .w8 4) = .next ((running .w8 4).writeTxuMode .halt)) ∧
    ((∃ ok, Instr.reset .rxu true = .reset .rxu ok) ∧
      exec (.reset .rxu true) failed = .next (failed.writeRxu (Rxu.afterReset true) (State.resetInRange _ _))) := ⟨⟨rfl, rfl⟩, ⟨true, rfl⟩, rfl⟩
theorem witness_CommandIsServoThenMotorCall : failed.commands = (watching 4 .active 3).commands ++ [⟨0, 0⟩] ∧
    (failed.writeRxuMode .halt).commands = failed.commands ∧ (running .w3 4).commands = [] ∧
    exec .tick (watching 4 .active 3) = .next failed ∧
    exec (.rx 3 [0, 0, 0]) (running .w3 4) = .next ((running .w3 4).wdFrame ⟨210, 1600⟩) := ⟨rfl, rfl, rfl, rfl, rfl⟩
theorem test_driver_calls : ((running .w3 4).wdFrame ⟨90, 1600⟩).driverCalls =
    [.setDutyCycle .servo 90, .setDutyCycle .motor 1600] := by decide
theorem witness_DecodeOfEncode : Instr.wf (.evRsy 0xFFFF) = true ∧ Instr.wf (.rx 0 []) = true ∧
    Instr.wf (.rx 0xFFFF (List.replicate 0xFFFF 0)) = true ∧ Instr.wf (.reset .rxu false) = true :=
  ⟨rfl, rfl, beq_iff_eq.mpr List.length_replicate, rfl⟩
theorem witness_EncodeOfDecode : decode .rxu 0x400002#24 [0xAB, 0xCD] = .ok (.rx 2 [0xAB, 0xCD]) ∧
    decode .txu 0x1C0000#24 [] = .ok (.evId7 0) := ⟨rfl, rfl⟩
theorem witness_EveryWordIsOneRowOrRefused : decode .rxu 0x800000#24 [] = .ok (.shutdown .rxu) ∧
    (∃ r ∈ opcodeRows, 0x40FFFF#24 &&& r.2 = r.1) ∧ (∀ r ∈ opcodeRows, 0x200003#24 &&& r.2 ≠ r.1) ∧
    (∀ r ∈ opcodeRows, 0xE12345#24 &&& r.2 ≠ r.1) :=
  ⟨rfl, by simp [opcodeRows], by simp [opcodeRows], by simp [opcodeRows]⟩
theorem witness_RefusalGroundsOfTheWord : (1 : BitVec 2) ≠ 0 ∧ (1 : BitVec 20) ≠ 0 ∧ (1 : BitVec 5) ≠ 0 ∧ (1 : BitVec 21) ≠ 0 ∧
    ((running .w8 4).offer [⟨.txu, 0x030000, []⟩]).inputs = ⟨.txu, 0x030000, []⟩ :: [] ∧
    Txn.decode ⟨.txu, 0x030000, []⟩ = .error .reservedBits := ⟨by decide, by decide, by decide, by decide, rfl, rfl⟩
theorem witness_StepRunsTheDecodedTransaction :
    ((running .w8 4).offer [⟨.rxu, 0x600000, []⟩]).inputs = ⟨.rxu, 0x600000, []⟩ :: [] ∧
    decode .rxu 0x600000 [] = .ok .tick ∧ (running .w8 4).inputs = [] := ⟨rfl, rfl, rfl⟩
theorem witness_StepKeepsRxuInvariant :
    RxuInvariant ((watching 4 .active 3).offer [encode .tick]) ∧ step ((watching 4 .active 3).offer [encode .tick]) = .next failed :=
  ⟨by decide, rfl⟩
theorem witness_StepKeepsTraceInvariant : TraceInvariant ((running .w3 4).offer [encode (.batch true)]) ∧
    step ((running .w3 4).offer [encode (.batch true)]) = .next ((running .w3 4).emitDatagram [0, 0x80, 0x80]) :=
  ⟨⟨fun _ h => (nomatch h), fun _ h => (nomatch h)⟩, rfl⟩
theorem witness_StepKeepsHeldDuty : HeldDutyInvariant (failed.offer [encode (.shutdown .rxu)]) ∧
    step (failed.offer [encode (.shutdown .rxu)]) = .next (failed.writeRxuMode .halt) := ⟨by decide, rfl⟩
theorem witness_UnitsShareNoState :
    (Instr.unit (.batch true) = .txu ∧ (running .w3 4).config = ((running .w3 4).writeWdCount 2 (by decide)).config ∧
      (running .w3 4).txu = ((running .w3 4).writeWdCount 2 (by decide)).txu ∧
      exec (.batch true) (running .w3 4) = .next ((running .w3 4).emitDatagram [0, 0x80, 0x80]) ∧
      exec (.batch true) ((running .w3 4).writeWdCount 2 (by decide)) = .next (((running .w3 4).writeWdCount 2 (by decide)).emitDatagram [0, 0x80, 0x80])) ∧
    (Instr.unit .tick = .rxu ∧ (watching 4 .active 3).config = ((watching 4 .active 3).writeLsx 2).config ∧
      (watching 4 .active 3).rxu = ((watching 4 .active 3).writeLsx 2).rxu ∧
      exec .tick (watching 4 .active 3) = .next failed ∧
      exec .tick ((watching 4 .active 3).writeLsx 2) = .next (failed.writeLsx 2)) :=
  ⟨⟨rfl, rfl, rfl, rfl, rfl⟩, rfl, rfl, rfl, rfl, rfl⟩
theorem witness_TransactionsOfDifferentUnitsCommute : Instr.wf (.batch false) = true ∧ Instr.wf .tick = true ∧
    Instr.unit (.batch false) = .txu ∧ Instr.unit .tick = .rxu := by decide
theorem witness_SendThenDeliverReachesActuator : (running .w3 4).txu.mode = .run ∧ (running .w3 4).rxu.mode = .run ∧
    (running .w3 4).config.linked ∧ (running .w3 4).inputs = [] := by decide
theorem witness_WireLenMismatchDropsEveryDatagram : mismatched.rxu.mode = .run ∧ ¬ mismatched.config.linked ∧
    legalDatagram mismatched.config.txuWireLen.bytes [0x00, 0xFF, 0x00] := ⟨rfl, by decide, rfl, 0xFF, 0, false, rfl⟩
theorem witness_CycleOrderIsStableByRank :
    (∀ x ∈ [encode .tick, encode (.reset .rxu true), encode (.rx 1 [0])], kindOf (wordKind x.word) ≠ none) ∧
    kindOf (wordKind (encode (.evLsx 1)).word) = kindOf (wordKind (encode (.evBoost 0)).word) ∧
    kindOf (wordKind (encode (.reset .rxu false)).word) = some .reset ∧
    kindOf (wordKind (encode (.shutdown .txu)).word) = some .shutdown ∧
    kindOf (wordKind (encode (.rx 1 [0])).word) = some .rx ∧ kindOf (wordKind (encode (.evId7 9)).word) = some .event ∧
    kindOf (wordKind (encode .tick).word) = some .tick ∧ kindOf (wordKind (encode (.batch true)).word) = some .batch := by decide
theorem witness_FrameBeatsTickOfOneCycle :
    (((watching 4 .failsafe 3).offer [encode (.rx 8 [0, 0, 0, 0, 0, 0, 0, 0]), encode .tick]).rxu.mode = .run ∧
      (8#16).toNat = (config .w8 4).rxuWireLen.bytes ∧ ([0, 0, 0, 0, 0, 0, 0, 0] : Datagram).length = (8#16).toNat ∧
      unpack [0, 0, 0, 0, 0, 0, 0, 0] (8#16).toNat = some ⟨false, 0, 255⟩ ∧
      ((watching 4 .failsafe 3).offer [encode (.rx 8 [0, 0, 0, 0, 0, 0, 0, 0]), encode .tick]).rxu.wdCount + 1 =
        (config .w8 4).timeoutTicks ∧
      ((watching 4 .failsafe 3).offer [encode (.rx 8 [0, 0, 0, 0, 0, 0, 0, 0]), encode .tick]).inputs =
        cycleOrder [encode .tick, encode (.rx 8 [0, 0, 0, 0, 0, 0, 0, 0])] ∧ 2 ≤ (config .w8 4).timeoutTicks) ∧
    ((watching 1 .active 0).rxu.wdCount + 1 = (watching 1 .active 0).config.timeoutTicks ∧
      (watching 1 .active 0).config.timeoutTicks = 1) := by decide
theorem witness_WatchdogCountFitsItsRegister : (config .w8 1).timeoutTicks = 1 ∧ 2 ≤ (config .w8 2).timeoutTicks ∧
    exec .tick (watching 4 .active 2) = .next (watching 4 .active 3) := ⟨rfl, by decide, rfl⟩
theorem witness_TimingParametersAreLegal :
    (running .w8 4).config.timeoutS * (running .w8 4).config.tickHz = ((4 : Nat) : ℚ) ∧
    step ((watching 4 .active 3).offer [encode .tick]) = .next failed := ⟨by norm_num [running, config], rfl⟩
theorem test_deliver_of_no_datagram : expandLine (running .w8 4) (.deliver 0) = [] ∧ expandLine (running .w8 4) (.deliver 1) = [] := by
  decide
theorem test_rounding : roundTicks true (5 / 2) = 3 ∧ roundTicks false (5 / 2) = 2 ∧ roundTicks false (1 / 3) = 1 := by
  norm_num [roundTicks]
  exact ⟨rfl, rfl⟩

end Sys2Proof.Tests
end

section
/-!
PROOF. Decoding an encoded transaction: a step whose first waiting transaction is an encoded one runs that transaction.
-/

namespace Sys2Proof

@[simp] theorem kindOf_event : kindOf 0b000#3 = some .event := rfl
@[simp] theorem kindOf_batch : kindOf 0b001#3 = some .batch := rfl
@[simp] theorem kindOf_rx : kindOf 0b010#3 = some .rx := rfl
@[simp] theorem kindOf_tick : kindOf 0b011#3 = some .tick := rfl
@[simp] theorem kindOf_shutdown : kindOf 0b100#3 = some .shutdown := rfl
@[simp] theorem kindOf_reset : kindOf 0b101#3 = some .reset := rfl

theorem decode_eventWord (id : BitVec 3) (val : BitVec 16) :
    decode .txu (eventWord id val) [] = .ok (eventOf id val) := by
  refine (decode_ok _ _ _ _).mpr ⟨.event, by rw [wordKind_eventWord, kindOf_event], rfl, ?_⟩
  refine (plainTxn_ok _ _ _ _).mpr ⟨by simp [wordEventReserved_eventWord], rfl, ?_⟩
  rw [wordId_eventWord, wordLow16_eventWord]

theorem decode_batchWord (sendOk : Bool) : decode .txu (verdictWord 0b001#3 sendOk) [] = .ok (.batch sendOk) := by
  refine (decode_ok _ _ _ _).mpr ⟨.batch, by rw [wordKind_verdictWord, kindOf_batch], rfl, ?_⟩
  refine (plainTxn_ok _ _ _ _).mpr ⟨by simp [wordReserved20_verdictWord], rfl, ?_⟩
  rw [wordBit0_verdictWord]

theorem decode_resetWord (u : UnitId) (ok : Bool) : decode u (verdictWord 0b101#3 ok) [] = .ok (.reset u ok) := by
  refine (decode_ok _ _ _ _).mpr ⟨.reset, by rw [wordKind_verdictWord, kindOf_reset], rfl, ?_⟩
  refine (plainTxn_ok _ _ _ _).mpr ⟨by simp [wordReserved20_verdictWord], rfl, ?_⟩
  rw [wordBit0_verdictWord]

theorem decode_tickWord : decode .rxu (bareWord 0b011#3) [] = .ok .tick := by
  refine (decode_ok _ _ _ _).mpr ⟨.tick, by rw [wordKind_bareWord, kindOf_tick], rfl, ?_⟩
  exact (plainTxn_ok _ _ _ _).mpr ⟨by simp [wordReserved21_bareWord], rfl, rfl⟩

theorem decode_shutdownWord (u : UnitId) : decode u (bareWord 0b100#3) [] = .ok (.shutdown u) := by
  refine (decode_ok _ _ _ _).mpr ⟨.shutdown, by rw [wordKind_bareWord, kindOf_shutdown], rfl, ?_⟩
  exact (plainTxn_ok _ _ _ _).mpr ⟨by simp [wordReserved21_bareWord], rfl, rfl⟩

theorem decode_rxWord (len : BitVec 16) (payload : Datagram) (fits : payloadFits len payload = true) :
    decode .rxu (Instr.rx len payload).word payload = .ok (.rx len payload) := by
  refine (decode_ok _ _ _ _).mpr ⟨.rx, by rw [wordKind_rxWord, kindOf_rx], rfl, ?_⟩
  refine (rxTxn_ok _ _ _).mpr ⟨wordRxReserved_rxWord len payload, ?_, ?_⟩ <;> rw [wordLow16_rxWord]
  exact fits

/-- A well-formed transaction decodes from its own word and payload (R66, R70). -/
theorem decode_encode (i : Instr) (wf : i.wf = true) : (encode i).decode = .ok i := by
  cases i with
  | evLsx val => exact decode_eventWord 0 val
  | evLsy val => exact decode_eventWord 1 val
  | evRsx val => exact decode_eventWord 2 val
  | evRsy val => exact decode_eventWord 3 val
  | evBoost val => exact decode_eventWord 4 val
  | evId5 val => exact decode_eventWord 5 val
  | evId6 val => exact decode_eventWord 6 val
  | evId7 val => exact decode_eventWord 7 val
  | batch sendOk => exact decode_batchWord sendOk
  | rx len payload => exact decode_rxWord len payload wf
  | tick => exact decode_tickWord
  | shutdown u => exact decode_shutdownWord u
  | reset u ok => exact decode_resetWord u ok

namespace Machine

/-- A step whose first waiting transaction is an encoded one is that transaction's meaning (R48). -/
theorem step_encode (s : State) (i : Instr) (rest : List Txn) (wf : i.wf = true) (waiting : s.inputs = encode i :: rest) :
    step s = exec i (s.withInputs rest) := by
  simp [step, waiting, decode_encode i wf]

/-- One more transaction of a run, by its effect. -/
theorem runSteps_encode (k : Nat) (s t : State) (i : Instr) (rest : List Txn) (wf : i.wf = true)
    (waiting : s.inputs = encode i :: rest) (effect : Effect i (s.withInputs rest) t) :
    runSteps (k + 1) s = runSteps k t :=
  runSteps_succ k s t ((step_encode s i rest wf waiting).trans (exec_of_effect _ _ _ effect))

end Machine
end Sys2Proof
end

section
/-!
PROOF. What one transaction can do, read off `Effect`: completion, the frame of the other unit, the dependence on the own
unit alone, and the commands issued.
-/

namespace Sys2Proof.Machine

open Sys2Proof

/-! ## Completion (R205) -/

/-- An RX whose payload is `len` bytes is accepted or dropped, so the missing byte of R40 is not reached. -/
theorem Effect.exists_rx (len : BitVec 16) (b : Datagram) (s : State) (fits : payloadFits len b = true)
    (run : s.rxu.mode = .run) : ∃ t, Effect (.rx len b) s t := by
  by_cases length : len.toNat = s.config.rxuWireLen.bytes
  · obtain ⟨d, fields⟩ := unpack_isSome b len.toNat (beq_iff_eq.mp fits).ge
    exact ⟨_, .rxFrame len b s d run length fields⟩
  · exact ⟨_, .rxDropped len b s run length⟩

theorem Effect.exists_reset (u : UnitId) (ok : Bool) (s : State) : ∃ t, Effect (.reset u ok) s t :=
  ⟨_, execReset_effect u ok s _ rfl⟩

/-- In RUN every well-formed transaction has an effect. -/
theorem Effect.exists_running (i : Instr) (s : State) (wf : i.wf = true) (run : s.modeOf i.unit = .run) :
    ∃ t, Effect i s t := by
  cases i with
  | evLsx val => exact ⟨_, .evLsx val s run⟩
  | evLsy val => exact ⟨_, .evLsy val s run⟩
  | evRsx val => exact ⟨_, .evRsx val s run⟩
  | evRsy val => exact ⟨_, .evRsy val s run⟩
  | evBoost val => exact ⟨_, .evBoost val s run⟩
  | evId5 val => exact ⟨_, .evId5 val s run⟩
  | evId6 val => exact ⟨_, .evId6 val s run⟩
  | evId7 val => exact ⟨_, .evId7 val s run⟩
  | batch sendOk => exact ⟨_, execBatch_effect sendOk s _ (if_pos run)⟩
  | rx len b => exact Effect.exists_rx len b s wf run
  | tick => exact ⟨_, takeTick_effect s run⟩
  | shutdown u => exact ⟨_, execShutdown_effect u s _ (if_pos run)⟩
  | reset u ok => exact Effect.exists_reset u ok s

/-- Every well-formed transaction has an effect in every state and mode. -/
theorem Effect.exists_of_wf (i : Instr) (s : State) (wf : i.wf = true) : ∃ t, Effect i s t := by
  by_cases run : s.modeOf i.unit = .run
  · exact Effect.exists_running i s wf run
  · by_cases reset : ∃ u ok, i = .reset u ok
    · obtain ⟨u, ok, rfl⟩ := reset
      exact Effect.exists_reset u ok s
    · exact ⟨s, .idle i s run fun u ok e => reset ⟨u, ok, e⟩⟩

/-! ## The frame of a transaction (R3, R26) -/

/-- A transaction writes no parameter and no waiting transaction, and no register of the other unit. -/
theorem Effect.frame {i : Instr} {s t : State} (h : Effect i s t) :
    t.config = s.config ∧ t.inputs = s.inputs ∧ (i.unit = .txu → t.rxu = s.rxu) ∧ (i.unit = .rxu → t.txu = s.txu) := by
  cases h <;> simp [Instr.unit]

/-- No step changes a parameter (R26). -/
theorem step_config (s t : State) (h : step s = .next t) : t.config = s.config := by
  rcases step_cases s t h with ⟨-, rfl⟩ | ⟨x, rest, i, -, -, taken⟩
  · rfl
  · exact (effect_of_exec _ _ _ taken).frame.1

/-! ## A transaction sees its own unit alone (R3, R30) -/

/-- The unit whose port a pulse leaves on (R29, R201). -/
def Pulse.unit : Pulse → UnitId
  | .dgOut _ => .txu
  | .cmdOut _ => .rxu
  | .logOut code => code.unit

@[simp] theorem Pulse.unit_dgOut (d : Datagram) : (Pulse.dgOut d).unit = .txu := rfl
@[simp] theorem Pulse.unit_cmdOut (c : Command) : (Pulse.cmdOut c).unit = .rxu := rfl
@[simp] theorem Pulse.unit_logOut (code : LogCode) : (Pulse.logOut code).unit = code.unit := rfl

/-- Two states agree at a unit: on the parameters and on the registers of that unit. -/
def State.AgreesAt (u : UnitId) (s t : State) : Prop :=
  s.config = t.config ∧ match u with
    | .txu => s.txu = t.txu
    | .rxu => s.rxu = t.rxu

theorem State.AgreesAt.modeOf {u : UnitId} {s t : State} (h : s.AgreesAt u t) : s.modeOf u = t.modeOf u := by
  cases u
  · exact congrArg Txu.mode h.2
  · exact congrArg Rxu.mode h.2

/-- A state that agrees with `s` at the TXU is `s` but for the RXU and the traces. -/
theorem State.AgreesAt.txu_cases {s t : State} (h : s.AgreesAt .txu t) :
    ∃ rxu inputs outputs inRange, t = ⟨s.config, s.txu, rxu, inputs, outputs, inRange⟩ := by
  obtain ⟨config, txu, rxu, inputs, outputs, inRange⟩ := t
  obtain ⟨rfl, rfl⟩ := h
  exact ⟨_, _, _, _, rfl⟩

/-- A state that agrees with `s` at the RXU is `s` but for the TXU and the traces. -/
theorem State.AgreesAt.rxu_cases {s t : State} (h : s.AgreesAt .rxu t) :
    ∃ txu inputs outputs, t = ⟨s.config, txu, s.rxu, inputs, outputs, s.countInRange⟩ := by
  obtain ⟨config, txu, rxu, inputs, outputs, inRange⟩ := t
  obtain ⟨rfl, rfl⟩ := h
  exact ⟨_, _, _, rfl⟩

/-- `t` has the pulses of `s` and then `ps`, all of them on ports of unit `u`. -/
def State.Adds (u : UnitId) (ps : List Pulse) (s t : State) : Prop :=
  t.outputs = s.outputs ++ ps ∧ ∀ p ∈ ps, p.unit = u

/-- What `i` did from `s` to `s'` it does in `t` too: the same registers of its unit, and the same pulses on the unit's own
ports. -/
def Effect.Twin (i : Instr) (s s' t : State) : Prop :=
  ∃ t' ps, Effect i t t' ∧ s'.AgreesAt i.unit t' ∧ State.Adds i.unit ps s s' ∧ State.Adds i.unit ps t t'

theorem Effect.twin_silent {i : Instr} {s s' t t' : State} (effect : Effect i t t') (agree : s'.AgreesAt i.unit t')
    (hs : s'.outputs = s.outputs) (ht : t'.outputs = t.outputs) : Effect.Twin i s s' t :=
  ⟨t', [], effect, agree, ⟨by simp [hs], by simp⟩, ⟨by simp [ht], by simp⟩⟩

theorem Effect.twin_pulse {i : Instr} {s s' t t' : State} (p : Pulse) (effect : Effect i t t')
    (agree : s'.AgreesAt i.unit t') (port : p.unit = i.unit) (hs : s'.outputs = s.outputs ++ [p])
    (ht : t'.outputs = t.outputs ++ [p]) : Effect.Twin i s s' t :=
  ⟨t', [p], effect, agree, ⟨hs, by simp [port]⟩, ⟨ht, by simp [port]⟩⟩

/-- A transaction does the same in every state that agrees with the given one at its unit. -/
theorem Effect.twin {i : Instr} {s s' t : State} (h : Effect i s s') (agree : s.AgreesAt i.unit t) :
    Effect.Twin i s s' t := by
  cases h with
  | idle _ _ mode other => exact twin_silent (.idle i t (agree.modeOf ▸ mode) other) agree rfl rfl
  | evLsx val _ run =>
    obtain ⟨_, _, _, _, rfl⟩ := agree.txu_cases
    exact twin_silent (.evLsx val _ run) ⟨rfl, rfl⟩ rfl rfl
  | evLsy val _ run =>
    obtain ⟨_, _, _, _, rfl⟩ := agree.txu_cases
    exact twin_silent (.evLsy val _ run) ⟨rfl, rfl⟩ rfl rfl
  | evRsx val _ run =>
    obtain ⟨_, _, _, _, rfl⟩ := agree.txu_cases
    exact twin_silent (.evRsx val _ run) ⟨rfl, rfl⟩ rfl rfl
  | evRsy val _ run =>
    obtain ⟨_, _, _, _, rfl⟩ := agree.txu_cases
    exact twin_silent (.evRsy val _ run) ⟨rfl, rfl⟩ rfl rfl
  | evBoost val _ run =>
    obtain ⟨_, _, _, _, rfl⟩ := agree.txu_cases
    exact twin_silent (.evBoost val _ run) ⟨rfl, rfl⟩ rfl rfl
  | evId5 val _ run => exact twin_silent (.evId5 val t (agree.modeOf.symm.trans run)) agree rfl rfl
  | evId6 val _ run => exact twin_silent (.evId6 val t (agree.modeOf.symm.trans run)) agree rfl rfl
  | evId7 val _ run => exact twin_silent (.evId7 val t (agree.modeOf.symm.trans run)) agree rfl rfl
  | batchSent _ run =>
    obtain ⟨_, _, _, _, rfl⟩ := agree.txu_cases
    exact twin_pulse (.dgOut s.datagram) (.batchSent _ run) ⟨rfl, rfl⟩ rfl rfl rfl
  | batchFailed _ run =>
    obtain ⟨_, _, _, _, rfl⟩ := agree.txu_cases
    exact twin_pulse (.logOut .sendFailed) (.batchFailed _ run) ⟨rfl, rfl⟩ rfl rfl rfl
  | rxFrame len b _ d run length fields =>
    obtain ⟨_, _, _, rfl⟩ := agree.rxu_cases
    exact twin_pulse (.cmdOut (mapCommand d)) (.rxFrame len b _ d run length fields) ⟨rfl, rfl⟩ rfl rfl rfl
  | rxDropped len b _ run length =>
    obtain ⟨_, _, _, rfl⟩ := agree.rxu_cases
    exact twin_pulse (.logOut .malformedFrame) (.rxDropped len b _ run length) ⟨rfl, rfl⟩ rfl rfl rfl
  | tickCounted _ run below =>
    obtain ⟨txu, inputs, outputs, rfl⟩ := agree.rxu_cases
    exact twin_silent (.tickCounted ⟨_, txu, s.rxu, inputs, outputs, s.countInRange⟩ run below) ⟨rfl, rfl⟩ rfl rfl
  | tickExpired _ run reached =>
    obtain ⟨_, _, _, rfl⟩ := agree.rxu_cases
    exact ⟨_, [.cmdOut failsafeCommand, .logOut .receiveTimeout], .tickExpired _ run reached, ⟨rfl, rfl⟩,
      ⟨by simp, by simp [Instr.unit, LogCode.unit]⟩, ⟨by simp, by simp [Instr.unit, LogCode.unit]⟩⟩
  | shutdownTxu _ run =>
    obtain ⟨_, _, _, _, rfl⟩ := agree.txu_cases
    exact twin_silent (.shutdownTxu _ run) ⟨rfl, rfl⟩ rfl rfl
  | shutdownRxu _ run =>
    obtain ⟨_, _, _, rfl⟩ := agree.rxu_cases
    exact twin_silent (.shutdownRxu _ run) ⟨rfl, rfl⟩ rfl rfl
  | resetTxuOk =>
    obtain ⟨_, _, _, _, rfl⟩ := agree.txu_cases
    exact twin_silent (.resetTxuOk _) ⟨rfl, rfl⟩ rfl rfl
  | resetTxuFailed =>
    obtain ⟨_, _, _, _, rfl⟩ := agree.txu_cases
    exact twin_pulse (.logOut .noDeviceFound) (.resetTxuFailed _) ⟨rfl, rfl⟩ rfl rfl rfl
  | resetRxuOk =>
    obtain ⟨_, _, _, rfl⟩ := agree.rxu_cases
    exact twin_silent (.resetRxuOk _) ⟨rfl, rfl⟩ rfl rfl
  | resetRxuFailed =>
    obtain ⟨_, _, _, rfl⟩ := agree.rxu_cases
    exact twin_pulse (.logOut .bindFailed) (.resetRxuFailed _) ⟨rfl, rfl⟩ rfl rfl rfl

/-- Of two states that agree at a transaction's unit, the next states agree there and show the same new pulses. -/
theorem exec_agrees {i : Instr} {s t s' t' : State} (agree : s.AgreesAt i.unit t) (hs : exec i s = .next s')
    (ht : exec i t = .next t') :
    s'.AgreesAt i.unit t' ∧ ∃ ps, s'.outputs = s.outputs ++ ps ∧ t'.outputs = t.outputs ++ ps := by
  obtain ⟨t'', ps, effect, agree', ⟨addsS, -⟩, ⟨addsT, -⟩⟩ := (effect_of_exec i s s' hs).twin agree
  obtain rfl : t'' = t' := Host.Outcome.next.inj ((exec_of_effect _ _ _ effect).symm.trans ht)
  exact ⟨agree', ps, addsS, addsT⟩

/-- Settles O50: the frame of an effect, and its twin in every state that agrees at its unit. -/
theorem unitsShareNoState : Obligations.UnitsShareNoState := by
  refine ⟨fun i s t h => (effect_of_exec i s t h).frame, ?_, ?_⟩
  · intro i s t s' t' hu config txu hs ht
    obtain ⟨⟨-, txu'⟩, pulses⟩ := exec_agrees (i := i) (by rw [hu]; exact ⟨config, txu⟩) hs ht
    rw [hu] at txu'
    exact ⟨txu', pulses⟩
  · intro i s t s' t' hu config rxu hs ht
    obtain ⟨⟨-, rxu'⟩, pulses⟩ := exec_agrees (i := i) (by rw [hu]; exact ⟨config, rxu⟩) hs ht
    rw [hu] at rxu'
    exact ⟨rxu', pulses⟩

/-! ## Transactions of the two units commute (R48, R214) -/

/-- A view of one unit's ports sees nothing of another unit's pulses. -/
theorem filterMap_of_other_unit {α : Type} {u v : UnitId} (view : Pulse → Option α) (ps : List Pulse)
    (own : ∀ p, p.unit ≠ u → view p = none) (other : v ≠ u) (of : ∀ p ∈ ps, p.unit = v) : ps.filterMap view = [] :=
  List.filterMap_eq_nil_iff.mpr fun p hp => own p (of p hp ▸ other)

/-- A view of one unit's ports does not see in which order the two units' pulses came. -/
theorem filterMap_comm_of_units {α : Type} (u : UnitId) (view : Pulse → Option α) (os ps qs : List Pulse)
    (own : ∀ p, p.unit ≠ u → view p = none) (hp : ∀ p ∈ ps, p.unit = .txu) (hq : ∀ p ∈ qs, p.unit = .rxu) :
    (os ++ ps ++ qs).filterMap view = (os ++ qs ++ ps).filterMap view := by
  cases u with
  | txu => simp [filterMap_of_other_unit view qs own (by decide) hq]
  | rxu => simp [filterMap_of_other_unit view ps own (by decide) hp]

/-- Pulses of the two units in either order show the same on every port. -/
theorem ports_comm {s t : State} {os ps qs : List Pulse} (hs : s.outputs = os ++ ps ++ qs)
    (ht : t.outputs = os ++ qs ++ ps) (hp : ∀ p ∈ ps, p.unit = .txu) (hq : ∀ p ∈ qs, p.unit = .rxu) :
    s.datagrams = t.datagrams ∧ s.commands = t.commands ∧
      ∀ u, s.logs.filter (fun c => c.unit == u) = t.logs.filter (fun c => c.unit == u) := by
  simp only [State.datagrams, State.commands, State.logs, List.filter_filterMap, hs, ht]
  refine ⟨filterMap_comm_of_units .txu _ os ps qs ?_ hp hq, filterMap_comm_of_units .rxu _ os ps qs ?_ hp hq,
    fun u => filterMap_comm_of_units u _ os ps qs ?_ hp hq⟩
  · intro p other
    cases p with
    | dgOut d => exact absurd rfl other
    | cmdOut c => rfl
    | logOut code => rfl
  · intro p other
    cases p with
    | dgOut d => rfl
    | cmdOut c => exact absurd rfl other
    | logOut code => rfl
  · intro p other
    cases p with
    | dgOut d => rfl
    | cmdOut c => rfl
    | logOut code => simpa [Option.filter] using other

/-- Settles O51: each transaction has its twin after the other, and no port shows the order of the two units' pulses. -/
theorem transactionsOfDifferentUnitsCommute : Obligations.TransactionsOfDifferentUnitsCommute := by
  intro i j s wfI wfJ unitI unitJ
  obtain ⟨s1, atS1⟩ := Effect.exists_of_wf i s wfI
  obtain ⟨t1, atT1⟩ := Effect.exists_of_wf j s wfJ
  obtain ⟨configS1, inputsS1, rxuS1, -⟩ := atS1.frame
  obtain ⟨configT1, inputsT1, -, txuT1⟩ := atT1.frame
  obtain ⟨s2, qs, atS2, agreeJ, ⟨outT1, ofJ⟩, ⟨outS2, -⟩⟩ :=
    atT1.twin (t := s1) (by rw [unitJ]; exact ⟨configS1.symm, (rxuS1 unitI).symm⟩)
  obtain ⟨t2, ps, atT2, agreeI, ⟨outS1, ofI⟩, ⟨outT2, -⟩⟩ :=
    atS1.twin (t := t1) (by rw [unitI]; exact ⟨configT1.symm, (txuT1 unitJ).symm⟩)
  obtain ⟨configS2, inputsS2, -, txuS2⟩ := atS2.frame
  obtain ⟨configT2, inputsT2, rxuT2, -⟩ := atT2.frame
  rw [unitJ] at agreeJ ofJ
  rw [unitI] at agreeI ofI
  refine ⟨s1, s2, t1, t2, exec_of_effect _ _ _ atS1, exec_of_effect _ _ _ atS2, exec_of_effect _ _ _ atT1,
    exec_of_effect _ _ _ atT2, ?_, ?_, ?_, ?_, ports_comm (outS1 ▸ outS2) (outT1 ▸ outT2) ofI ofJ⟩
  · rw [configS2, configS1, configT2, configT1]
  · exact (txuS2 unitJ).trans agreeI.2
  · exact agreeJ.2.symm.trans (rxuT2 unitI).symm
  · rw [inputsS2, inputsS1, inputsT2, inputsT1]

end Sys2Proof.Machine
end

section
/-!
PROOF. The timing parameters (spec 00 R8, 92 D9).
-/

namespace Sys2Proof.Machine

open Sys2Proof

/-- A `TIMEOUT_TICKS` less than 1 away from an integer product is the product. -/
theorem ticks_eq_of_legalTiming {timeoutS tickHz : ℚ} {ticks n : Nat} (h : legalTiming timeoutS tickHz ticks)
    (product : timeoutS * tickHz = n) : ticks = n := by
  obtain ⟨-, -, -, above, below⟩ := h
  rw [product] at above below
  have hi : ticks < n + 1 := by exact_mod_cast sub_lt_iff_lt_add'.mp above
  have lo : n < ticks + 1 := by exact_mod_cast sub_lt_iff_lt_add'.mp below
  omega

/-- `TIMEOUT_TICKS` tick periods differ from `TIMEOUT_S` by less than one. -/
theorem periods_near_of_legalTiming {timeoutS tickHz : ℚ} {ticks : Nat} (h : legalTiming timeoutS tickHz ticks) :
    (ticks : ℚ) / tickHz - timeoutS < 1 / tickHz ∧ timeoutS - (ticks : ℚ) / tickHz < 1 / tickHz := by
  obtain ⟨-, rate, -, above, below⟩ := h
  have periods : timeoutS = timeoutS * tickHz / tickHz := (mul_div_cancel_right₀ timeoutS rate.ne').symm
  rw [periods, ← sub_div, ← sub_div]
  exact ⟨div_lt_div_of_pos_right above rate, div_lt_div_of_pos_right below rate⟩

/-- Settles O57: every state's parameters are legal, and no step writes them. -/
theorem timingParametersAreLegal : Obligations.TimingParametersAreLegal := by
  refine ⟨fun s => ?_, step_config, rfl, rfl, rfl⟩
  obtain ⟨timeout, rate, atLeastOne, -⟩ := s.config.timing
  exact ⟨timeout, rate, atLeastOne, fun _ => ticks_eq_of_legalTiming s.config.timing,
    periods_near_of_legalTiming s.config.timing⟩

end Sys2Proof.Machine
end

section
/-!
PROOF. The commands of one transaction and the driver calls they stand for (spec 00 R12, 42 R143 to R146, 60 R212).
-/

namespace Sys2Proof.Machine

open Sys2Proof

/-! ## The mapper as natural numbers -/

/-- The linear map with a numerator that is not negative, as a quotient of natural numbers (R142). -/
theorem linMap_of_nat {v outLo outHi : Int} (n : Nat) (numerator : outLo * 255 + v * (outHi - outLo) = n) :
    linMap v inLo inHi outLo outHi = (n / 255 : Nat) := by
  simp [linMap, inLo, inHi, numerator, Int.tdiv_eq_ediv_of_nonneg]

theorem ofInt_natCast_toNat {w n : Nat} (fits : n < 2 ^ w) : (BitVec.ofInt w n).toNat = n := by
  simp [Nat.mod_eq_of_lt fits]

/-- R143. -/
theorem servoMap_toNat (x : Byte) : (servoMap x).toNat = (53550 - 120 * x.toNat) / 255 := by
  have := x.isLt
  rw [servoMap, linMap_of_nat (53550 - 120 * x.toNat) (by unfold servoOutLo servoOutHi; omega),
    ofInt_natCast_toNat (by omega)]

theorem motorOutLo_plain : motorOutLo false = 1400 := rfl
theorem motorOutHi_plain : motorOutHi false = 1600 := rfl
theorem motorOutLo_boost : motorOutLo true = 1000 := rfl
theorem motorOutHi_boost : motorOutHi true = 2000 := rfl

/-- R144 without boost. -/
theorem motorMap_toNat_plain (y : Byte) : (motorMap y false).toNat = (357000 + 200 * y.toNat) / 255 := by
  have := y.isLt
  rw [motorMap, linMap_of_nat (357000 + 200 * y.toNat)
    (by rw [motorOutLo_plain, motorOutHi_plain]; omega),
    ofInt_natCast_toNat (by omega)]

/-- R144 with boost. -/
theorem motorMap_toNat_boost (y : Byte) : (motorMap y true).toNat = (255000 + 1000 * y.toNat) / 255 := by
  have := y.isLt
  rw [motorMap, linMap_of_nat (255000 + 1000 * y.toNat)
    (by rw [motorOutLo_boost, motorOutHi_boost]; omega),
    ofInt_natCast_toNat (by omega)]

theorem servoMap_range (x : Byte) : 90 ≤ (servoMap x).toNat ∧ (servoMap x).toNat ≤ 210 := by
  have := x.isLt
  rw [servoMap_toNat]
  omega

theorem motorMap_range (y : Byte) (boost : Bool) :
    1000 ≤ (motorMap y boost).toNat ∧ (motorMap y boost).toNat ≤ 2000 := by
  have := y.isLt
  cases boost
  · rw [motorMap_toNat_plain]
    omega
  · rw [motorMap_toNat_boost]
    omega

/-- The mapper stays in the mapped ranges (R146). -/
theorem mapCommand_isMapped (d : Decoded) : isMapped (mapCommand d) := by
  obtain ⟨servoLo, servoHi⟩ := servoMap_range d.x
  exact ⟨servoLo, servoHi, motorMap_range d.y d.boost⟩

/-! ## The commands of one transaction -/

@[simp] theorem State.commands_emitDatagram (s : State) (d : Datagram) : (s.emitDatagram d).commands = s.commands := by
  simp [State.commands]

@[simp] theorem State.commands_raise (s : State) (code : LogCode) : (s.raise code).commands = s.commands := by
  simp [State.commands]

@[simp] theorem State.datagrams_emitDatagram (s : State) (d : Datagram) :
    (s.emitDatagram d).datagrams = s.datagrams ++ [d] := by
  simp [State.datagrams]

/-- A transaction issues no command, or one, which is legal (R212). -/
theorem Effect.commands {i : Instr} {s t : State} (h : Effect i s t) :
    t.commands = s.commands ∨ ∃ c, isLegal c ∧ t.commands = s.commands ++ [c] := by
  cases h with
  | rxFrame len b _ d => exact .inr ⟨mapCommand d, .inr (mapCommand_isMapped d), by simp⟩
  | tickExpired => exact .inr ⟨failsafeCommand, .inl rfl, by simp⟩
  | _ => exact .inl (by simp)

/-- The duties of a legal command, written out. -/
theorem isLegal.duties {c : Command} (legal : isLegal c) :
    (c.servo.toNat = 0 ∧ c.motor.toNat = 0) ∨
      (90 ≤ c.servo.toNat ∧ c.servo.toNat ≤ 210 ∧ 1000 ≤ c.motor.toNat ∧ c.motor.toNat ≤ 2000) := by
  rcases legal with rfl | mapped
  · exact .inl ⟨rfl, rfl⟩
  · exact .inr mapped

/-- A legal command is within the PWM range of each channel (R9, R212). -/
theorem isLegal.within_channelRange {c : Command} (legal : isLegal c) :
    c.servo.toNat ≤ channelRange .servo ∧ c.motor.toNat ≤ channelRange .motor := by
  have servo : channelRange .servo = 2000 := rfl
  have motor : channelRange .motor = 20000 := rfl
  have := legal.duties
  omega

/-- Settles O39: the driver's calls are made of the commands, and a transaction issues at most one, which is legal. -/
theorem commandIsServoThenMotorCall : Obligations.CommandIsServoThenMotorCall := by
  refine ⟨State.driverCalls_of_commands_append, State.driverCalls_of_commands, ?_, ?_⟩
  · intro s none
    simp [State.driverCalls, none]
  · intro i s t h
    rcases (effect_of_exec i s t h).commands with same | ⟨c, legal, more⟩
    · exact .inl ⟨same, s.driverCalls_of_commands t same⟩
    · exact .inr ⟨c, more, s.driverCalls_of_commands_append t c more, legal.duties, legal.within_channelRange⟩

end Sys2Proof.Machine
end

section
/-!
PROOF. From SEND to the actuator (spec 00 R4, 30 R72): the datagram on the wire carries the frame's value, and the RXU reads
the fields back with y inverted.
-/

namespace Sys2Proof.Machine

open Sys2Proof

/-! ## The datagram carries the frame (R106, R107, R122) -/

theorem frameByte_toNat (f : Frame) (n i : Nat) : (frameByte f n i).toNat = f.toNat / 2 ^ (8 * (n - 1 - i)) % 256 := by
  simp [frameByte, Nat.shiftRight_eq_div_pow, Nat.and_two_pow_sub_one_eq_mod _ 8]

theorem memReadBE_of_three (a b c : Byte) :
    memReadBE [a, b, c] 3 = some (((0 * 256 + a.toNat) * 256 + b.toNat) * 256 + c.toNat) := rfl

theorem memReadBE_of_eight (a b c d e f g h : Byte) : memReadBE [a, b, c, d, e, f, g, h] 8 =
    some ((((((((0 * 256 + a.toNat) * 256 + b.toNat) * 256 + c.toNat) * 256 + d.toNat) * 256 + e.toNat) * 256 + f.toNat) *
      256 + g.toNat) * 256 + h.toNat) := rfl

/-- The big-endian value of a serialized frame is the frame, at both wire lengths. -/
theorem memReadBE_serialize (f : Frame) (w : WireLen) : memReadBE (serialize f w.bytes) w.bytes = some f.toNat := by
  have := f.isLt
  cases w with
  | w3 =>
    rw [WireLen.bytes, serialize_w3, memReadBE_of_three, Option.some_inj]
    simp only [frameByte_toNat]
    omega
  | w8 =>
    rw [WireLen.bytes, serialize_w8, memReadBE_of_eight, Option.some_inj]
    simp only [frameByte_toNat]
    omega

theorem byte_and_0xFF (v : Byte) : v.toNat &&& 0xFF = v.toNat := by
  rw [Nat.and_two_pow_sub_one_eq_mod v.toNat 8, Nat.mod_eq_of_lt v.isLt]

/-- PACK as a sum: the three fields do not overlap (R106). -/
theorem pack_toNat (x y : Byte) (boost : Bool) :
    (pack x y boost).toNat = bit boost * 2 ^ 16 + (x.toNat * 2 ^ 8 + y.toNat) := by
  have hx := x.isLt
  have hy := y.isLt
  have hb : bit boost ≤ 1 := by cases boost <;> decide
  have low : x.toNat <<< 8 ||| y.toNat = x.toNat * 2 ^ 8 + y.toNat := by
    rw [← Nat.shiftLeft_add_eq_or_of_lt hy, Nat.shiftLeft_eq]
  have all : x.toNat <<< 8 ||| y.toNat ||| bit boost <<< 16 = bit boost * 2 ^ 16 + (x.toNat * 2 ^ 8 + y.toNat) := by
    rw [low, Nat.or_comm, ← Nat.shiftLeft_add_eq_or_of_lt (by omega), Nat.shiftLeft_eq]
  rw [pack, byte_and_0xFF, byte_and_0xFF, all, BitVec.toNat_ofNat]
  omega

/-- The fields of a packed frame: y comes back inverted (R124). -/
theorem fieldsOf_pack (x y : Byte) (boost : Bool) : fieldsOf (pack x y boost).toNat = ⟨boost, x, 255 - y⟩ := by
  have hx := x.isLt
  have hy := y.isLt
  have fieldBoost : (pack x y boost).toNat >>> 16 &&& 1 = bit boost := by
    rw [pack_toNat, Nat.shiftRight_eq_div_pow, Nat.and_one_is_mod]
    cases boost <;> simp [bit] <;> omega
  have fieldX : (pack x y boost).toNat >>> 8 &&& 0xFF = x.toNat := by
    rw [pack_toNat, Nat.shiftRight_eq_div_pow, Nat.and_two_pow_sub_one_eq_mod _ 8]
    omega
  have fieldY : (pack x y boost).toNat &&& 0xFF = y.toNat := by
    rw [pack_toNat, Nat.and_two_pow_sub_one_eq_mod _ 8]
    omega
  have boostBit : (bit boost == 1) = boost := by cases boost <;> rfl
  simp [fieldsOf, fieldBoost, fieldX, fieldY, boostBit, decodeY, yInvert]

/-- UNPACK after SERIALIZE after PACK (R124). -/
theorem unpack_serialize_pack (x y : Byte) (boost : Bool) (w : WireLen) :
    unpack (serialize (pack x y boost) w.bytes) w.bytes = some ⟨boost, x, 255 - y⟩ := by
  rw [unpack, memReadBE_serialize, Option.map_some, fieldsOf_pack]

/-! ## The runs of SEND and of DELIVER (R72) -/

theorem State.datagram_eq (s : State) :
    s.datagram = serialize (pack s.txu.lsx s.txu.rsy s.txu.boost) s.config.txuWireLen.bytes := rfl

@[simp] theorem State.offerLine_config (s : State) (l : TraceLine) : (s.offerLine l).config = s.config := rfl
@[simp] theorem State.offerLine_txu (s : State) (l : TraceLine) : (s.offerLine l).txu = s.txu := rfl
@[simp] theorem State.offerLine_rxu (s : State) (l : TraceLine) : (s.offerLine l).rxu = s.rxu := rfl
@[simp] theorem State.offerLine_datagrams (s : State) (l : TraceLine) : (s.offerLine l).datagrams = s.datagrams := rfl
@[simp] theorem State.offerLine_commands (s : State) (l : TraceLine) : (s.offerLine l).commands = s.commands := rfl

theorem State.offerLine_inputs (s : State) (l : TraceLine) (idle : s.inputs = []) :
    (s.offerLine l).inputs = (expandLine s l).map encode := by
  simp [State.offerLine, State.offer, idle]

/-- SEND from a state with the TXU in RUN and nothing waiting: four steps, and one datagram more, of the low bytes of x and y. -/
theorem runSteps_send (x y b : BitVec 16) (s : State) (run : s.txu.mode = .run) (idle : s.inputs = []) :
    ∃ t, runSteps 4 (s.offerLine (.send x y b)) = .next t ∧ t.config = s.config ∧ t.rxu = s.rxu ∧ t.inputs = [] ∧
      t.commands = s.commands ∧
      t.datagrams = s.datagrams ++ [serialize (pack (axisOf x) (axisOf y) (boostOf b)) s.config.txuWireLen.bytes] := by
  have waiting : (s.offerLine (.send x y b)).inputs =
      [encode (.evLsx x), encode (.evRsy y), encode (.evBoost b), encode (.batch true)] := by
    rw [s.offerLine_inputs _ idle]
    rfl
  -- `by exact` waits until the state before its transaction is known, where the mode is still that of `s`.
  have four := (runSteps_encode 3 _ _ _ _ rfl waiting (.evLsx x _ run)).trans <|
    (runSteps_encode 2 _ _ _ _ rfl rfl (.evRsy y _ (by exact run))).trans <|
    (runSteps_encode 1 _ _ _ _ rfl rfl (.evBoost b _ (by exact run))).trans <|
    runSteps_encode 0 _ _ _ _ rfl rfl (.batchSent _ (by exact run))
  exact ⟨_, four, rfl, rfl, rfl, by simp, by simp [State.datagram_eq]⟩

/-- DELIVER of a datagram of the RXU's `WIRE_LEN`, with the RXU in RUN and nothing waiting: one step, which issues the mapped
command. -/
theorem runSteps_deliver (k : Nat) (d : Datagram) (fields : Decoded) (s : State) (run : s.rxu.mode = .run)
    (idle : s.inputs = []) (sent : s.datagramAt k = some d) (length : d.length = s.config.rxuWireLen.bytes)
    (unpacked : unpack d d.length = some fields) :
    ∃ t, runSteps 1 (s.offerLine (.deliver k)) = .next t ∧ t.inputs = [] ∧
      t.commands = s.commands ++ [mapCommand fields] ∧ t.rxu.wdState = .active ∧ t.rxu.wdCount = 0 := by
  have len : (BitVec.ofNat 16 d.length).toNat = d.length := by
    rw [length]
    cases s.config.rxuWireLen <;> rfl
  have waiting : (s.offerLine (.deliver k)).inputs = [encode (rxOf d)] := by
    rw [s.offerLine_inputs _ idle]
    simp [expandLine, sent]
  have taken := runSteps_encode 0 (s.offerLine (.deliver k)) _ (rxOf d) _ (beq_iff_eq.mpr len.symm) waiting
    (.rxFrame _ d _ fields run (len.trans length) (len.symm ▸ unpacked))
  exact ⟨_, taken, rfl, by simp, rfl, rfl⟩

theorem axisOf_eq (val : BitVec 16) : axisOf val = val.extractLsb' 0 8 := rfl

theorem boostOf_eq (val : BitVec 16) : boostOf val = decide (val ≠ 0) := by
  rw [Bool.eq_iff_iff]
  simp [boostOf]

/-- Settles O52: the run of SEND, then the run of DELIVER, and UNPACK after PACK between them. -/
theorem sendThenDeliverReachesActuator : Obligations.SendThenDeliverReachesActuator := by
  intro x y b s runTxu runRxu linked idle
  obtain ⟨t, sent, config, rxu, idleT, silent, datagrams⟩ := runSteps_send x y b s runTxu idle
  have last : t.datagramAt (s.datagrams.length + 1) =
      some (serialize (pack (axisOf x) (axisOf y) (boostOf b)) s.config.txuWireLen.bytes) := by
    simp [State.datagramAt, datagrams]
  obtain ⟨u, delivered, idleU, issued, active, count⟩ := runSteps_deliver _ _ ⟨boostOf b, axisOf x, 255 - axisOf y⟩ t
    (rxu ▸ runRxu) idleT last (by rw [serialize_length, config, linked])
    (by rw [serialize_length, unpack_serialize_pack])
  rw [silent, mapCommand, axisOf_eq, axisOf_eq, boostOf_eq] at issued
  exact ⟨t, u, sent, silent, idleT, delivered, idleU, issued, active, count⟩

end Sys2Proof.Machine
end

section
/-!
PROOF. The width of the register `wd_count` (spec 10 R27).
-/

namespace Sys2Proof

/-- Where `TIMEOUT_TICKS` is 2 or more, ceil(log2(`TIMEOUT_TICKS`)) is at least 1 by itself. -/
theorem Config.countWidth_eq_clog {c : Config} (ticks : 2 ≤ c.timeoutTicks) :
    c.countWidth = Nat.clog 2 c.timeoutTicks :=
  max_eq_right (Nat.clog_pos Nat.one_lt_two ticks)

theorem Config.timeoutTicks_le_two_pow_countWidth (c : Config) : c.timeoutTicks ≤ 2 ^ c.countWidth :=
  (Nat.clog_le_iff_le_pow Nat.one_lt_two).mp (le_max_right _ _)

theorem Config.two_pow_pred_countWidth_lt {c : Config} (ticks : 2 ≤ c.timeoutTicks) :
    2 ^ (c.countWidth - 1) < c.timeoutTicks := by
  rw [Config.countWidth_eq_clog ticks]
  exact Nat.pow_pred_clog_lt_self Nat.one_lt_two ticks

end Sys2Proof
end

section
/-!
PROOF. What every step keeps (spec 10 R27, R28, R31): each invariant is kept by every effect of a transaction, and taking the
transaction from the queue does not touch it.
-/

namespace Sys2Proof.Machine

open Sys2Proof

/-- A predicate that does not look at the waiting transactions and that every effect keeps is kept by every step. -/
theorem step_keeps {P : State → Prop} (queue : ∀ s rest, P s → P (s.withInputs rest))
    (effect : ∀ {i s t}, Effect i s t → P s → P t) (s t : State) (inv : P s) (h : step s = .next t) : P t := by
  rcases step_cases s t h with ⟨-, rfl⟩ | ⟨x, rest, i, -, -, taken⟩
  · exact inv
  · exact effect (effect_of_exec _ _ _ taken) (queue s rest inv)

/-! ## The registers of the RXU (R31) -/

/-- An effect keeps R31: a frame leaves FAILSAFE with a mapped command, an expiry issues (0, 0), and RESET clears both. -/
theorem Effect.keeps_rxuInvariant {i : Instr} {s t : State} (h : Effect i s t) (inv : RxuInvariant s) :
    RxuInvariant t := by
  cases h with
  | rxFrame len b _ d =>
    obtain ⟨servoLo, servoHi, motor⟩ := mapCommand_isMapped d
    exact fun _ => ⟨nofun, .inr ⟨servoLo, servoHi⟩, .inr motor⟩
  | tickExpired => exact fun _ => ⟨fun _ => ⟨rfl, rfl, rfl⟩, .inl rfl, .inl rfl⟩
  | shutdownRxu => exact nofun
  | resetRxuOk | resetRxuFailed => exact fun _ => ⟨nofun, .inl rfl, .inl rfl⟩
  | _ => exact inv

/-- Settles O46: every effect keeps R31, whatever is waiting. -/
theorem stepKeepsRxuInvariant : Obligations.StepKeepsRxuInvariant :=
  step_keeps (fun _ _ => id) Effect.keeps_rxuInvariant

/-! ## The held duty (R28, R165) -/

theorem State.heldDuty_congr {s t : State} (config : t.config = s.config) (commands : t.commands = s.commands) :
    t.heldDuty = s.heldDuty := by
  simp [State.heldDuty, config, commands]

/-- An effect keeps the held duty equal to the output registers: a command goes to both, and RESET clears `out_valid`. -/
theorem Effect.keeps_heldDutyInvariant {i : Instr} {s t : State} (h : Effect i s t) (inv : HeldDutyInvariant s) :
    HeldDutyInvariant t := by
  cases h with
  | rxFrame len b _ d => exact fun _ _ => s.heldDuty_of_commands _ (mapCommand d) (by simp)
  | tickExpired => exact fun _ _ => s.heldDuty_of_commands _ failsafeCommand (by simp)
  | shutdownRxu _ run => exact fun _ => inv (by simp [run])
  | resetRxuOk | resetRxuFailed => exact fun _ => nofun
  | _ => exact fun mode valid => (State.heldDuty_congr (by simp) (by simp)).trans (inv mode valid)

/-- Settles O48: every effect keeps the held duty, whatever is waiting. -/
theorem stepKeepsHeldDuty : Obligations.StepKeepsHeldDuty :=
  step_keeps (fun _ _ => id) Effect.keeps_heldDutyInvariant

/-! ## The range of `wd_count` (R27) -/

/-- An effect on `wd_count`: none, a restart of the count by a frame, an expiry or RESET, or one TICK counted. -/
theorem Effect.wdCount {i : Instr} {s t : State} (h : Effect i s t) :
    t.rxu.wdCount = s.rxu.wdCount ∨ t.rxu.wdCount = 0 ∨ (i = .tick ∧ t.rxu.wdCount = s.rxu.wdCount + 1) := by
  cases h with
  | rxFrame | tickExpired | resetRxuOk | resetRxuFailed => exact .inr (.inl rfl)
  | tickCounted => exact .inr (.inr ⟨rfl, rfl⟩)
  | _ => exact .inl rfl

/-- Settles O56: the range that a state carries, the width as a ceiling of a logarithm, and the effects on the count. -/
theorem watchdogCountFitsItsRegister : Obligations.WatchdogCountFitsItsRegister := by
  refine ⟨fun s => ⟨Nat.le_sub_one_of_lt s.countInRange, ?_⟩, fun c => ⟨?_, ?_, ?_⟩, ?_⟩
  · exact s.countInRange.trans_le s.config.timeoutTicks_le_two_pow_countWidth
  · intro one
    simp [Config.countWidth, one]
  · exact fun _ => ⟨le_max_left _ _, c.timeoutTicks_le_two_pow_countWidth⟩
  · exact Config.two_pow_pred_countWidth_lt
  · exact fun i s t h => (effect_of_exec i s t h).wdCount

end Sys2Proof.Machine
end

section
/-!
PROOF. The mode registers, and what EVENT and BATCH leave unchanged (spec 10 R20 to R23, 40 R101 to R104).
-/

namespace Sys2Proof.Machine

open Sys2Proof

/-! ## The modes (R22, R23) -/

/-- Settles O29: the mode gate, as the idle effect. -/
theorem idleUnitIgnoresAllButReset : Obligations.IdleUnitIgnoresAllButReset :=
  fun i s mode other => exec_of_effect i s s (.idle i s mode other)

theorem txu_or_rxu (u : UnitId) : u = .txu ∨ u = .rxu := by
  cases u <;> decide

/-- A transaction does not write the mode of the other unit (R3). -/
theorem Effect.modeOf_other {i : Instr} {s t : State} {u : UnitId} (h : Effect i s t) (other : i.unit ≠ u) :
    t.modeOf u = s.modeOf u := by
  obtain ⟨-, -, rxu, txu⟩ := h.frame
  cases u with
  | txu => exact congrArg Txu.mode (txu ((txu_or_rxu i.unit).resolve_left other))
  | rxu => exact congrArg Rxu.mode (rxu ((txu_or_rxu i.unit).resolve_right other))

/-- Only SHUTDOWN and RESET write the mode of the unit they are sent to. -/
theorem Effect.modeOf_own {i : Instr} {s t : State} (h : Effect i s t) :
    t.modeOf i.unit = s.modeOf i.unit ∨
      (i = .shutdown i.unit ∧ s.modeOf i.unit = .run ∧ t.modeOf i.unit = .halt) ∨
      (∃ ok, i = .reset i.unit ok ∧ t.modeOf i.unit = if ok then .run else .fatal) := by
  cases h with
  | shutdownTxu _ run | shutdownRxu _ run => exact .inr (.inl ⟨rfl, run, rfl⟩)
  | resetTxuOk | resetRxuOk => exact .inr (.inr ⟨true, rfl, rfl⟩)
  | resetTxuFailed | resetRxuFailed => exact .inr (.inr ⟨false, rfl, rfl⟩)
  | _ => exact .inl rfl

/-- Settles O30: the unit's own transactions by their effects, the other unit's by the frame. -/
theorem modeChangesOnlyByShutdownAndReset : Obligations.ModeChangesOnlyByShutdownAndReset := by
  intro i s t u h
  by_cases own : i.unit = u
  · subst own
    exact (effect_of_exec i s t h).modeOf_own
  · exact .inl ((effect_of_exec i s t h).modeOf_other own)

/-! ## Frames of EVENT and BATCH (R101 to R104) -/

/-- Settles O35: each of the five EVENTs with a register writes that one, and the others write none. -/
theorem frameOfEvents : Obligations.FrameOfEvents := by
  intro val i s t event h
  cases effect_of_exec i s t h with
  | evLsx v | evLsy v | evRsx v | evRsy v | evBoost v =>
    obtain rfl : v = val := by simpa using event
    simp
  | idle | evId5 | evId6 | evId7 => simp
  | _ => simp at event

/-- Settles O36: a send attempt adds one pulse, which is no command, and writes nothing. -/
theorem frameOfBatch : Obligations.FrameOfBatch := by
  intro sendOk s t h
  cases effect_of_exec _ s t h with
  | idle => exact ⟨rfl, rfl, rfl, rfl, rfl, .inl rfl⟩
  | batchSent => exact ⟨rfl, rfl, rfl, rfl, s.commands_emitDatagram _, .inr ⟨_, rfl⟩⟩
  | batchFailed => exact ⟨rfl, rfl, rfl, rfl, s.commands_raise _, .inr ⟨_, rfl⟩⟩

end Sys2Proof.Machine
end

section
/-!
PROOF. A step is the meaning of the decoded first waiting transaction (spec 20 R48, 30 R66, R216).
-/

namespace Sys2Proof.Machine

open Sys2Proof

/-- A step whose first waiting transaction decodes is that transaction's meaning, with it taken from the queue. -/
theorem step_of_decode {s : State} {x : Txn} {rest : List Txn} {i : Instr} (waiting : s.inputs = x :: rest)
    (decoded : x.decode = .ok i) : step s = exec i (s.withInputs rest) := by
  simp [step, waiting, decoded]

/-- Settles O45: the step of a decoded transaction, and the idle step. -/
theorem stepRunsTheDecodedTransaction : Obligations.StepRunsTheDecodedTransaction :=
  ⟨fun _ _ _ _ waiting decoded => step_of_decode waiting decoded, step_idle⟩

end Sys2Proof.Machine
end

section
/-!
PROOF. The encoder and the decoder undo each other (spec 30 R66 to R68).
-/

namespace Sys2Proof

/-- The EVENT that an identifier names is well-formed, and its word is made of that identifier and the value. -/
theorem encode_eventOf (id : BitVec 3) (val : BitVec 16) :
    (eventOf id val).wf = true ∧ encode (eventOf id val) = ⟨.txu, eventWord id val, []⟩ := by
  obtain ⟨rfl, e⟩ | ⟨rfl, e⟩ | ⟨rfl, e⟩ | ⟨rfl, e⟩ | ⟨rfl, e⟩ | ⟨rfl, e⟩ | ⟨rfl, e⟩ | ⟨rfl, e⟩ := eventOf_cases id val
  all_goals exact e ▸ ⟨rfl, rfl⟩

/-- What decodes is well-formed, and encodes to the unit, word and payload it was read from. -/
theorem encode_of_decode {u : UnitId} {w : TxnWord} {payload : Datagram} {i : Instr} (h : decode u w payload = .ok i) :
    i.wf = true ∧ encode i = ⟨u, w, payload⟩ := by
  obtain ⟨k, kind, accepted, fields⟩ := (decode_ok u w payload i).mp h
  have value := word_of_kind w k kind
  cases k with
  | event =>
    obtain rfl := acceptedBy_event u accepted
    obtain ⟨clear, rfl, rfl⟩ := (plainTxn_ok _ _ _ _).mp fields
    have word := eq_eventWord w value (beq_iff_eq.mp clear)
    obtain ⟨wf, encoded⟩ := encode_eventOf (wordId w) (wordLow16 w)
    exact ⟨wf, encoded.trans (congrArg (Txn.mk .txu · []) word.symm)⟩
  | batch =>
    obtain rfl := acceptedBy_batch u accepted
    obtain ⟨clear, rfl, rfl⟩ := (plainTxn_ok _ _ _ _).mp fields
    exact ⟨rfl, congrArg (Txn.mk .txu · []) (eq_verdictWord w 0b001#3 value (beq_iff_eq.mp clear)).symm⟩
  | rx =>
    obtain rfl := acceptedBy_rx u accepted
    obtain ⟨clear, fits, rfl⟩ := (rxTxn_ok _ _ _).mp fields
    exact ⟨fits, congrArg (Txn.mk .rxu · payload) (eq_rxWord w payload value clear).symm⟩
  | tick =>
    obtain rfl := acceptedBy_tick u accepted
    obtain ⟨clear, rfl, rfl⟩ := (plainTxn_ok _ _ _ _).mp fields
    exact ⟨rfl, congrArg (Txn.mk .rxu · []) (eq_bareWord w 0b011#3 value (beq_iff_eq.mp clear)).symm⟩
  | shutdown =>
    obtain ⟨clear, rfl, rfl⟩ := (plainTxn_ok _ _ _ _).mp fields
    exact ⟨rfl, congrArg (Txn.mk u · []) (eq_bareWord w 0b100#3 value (beq_iff_eq.mp clear)).symm⟩
  | reset =>
    obtain ⟨clear, rfl, rfl⟩ := (plainTxn_ok _ _ _ _).mp fields
    exact ⟨rfl, congrArg (Txn.mk u · []) (eq_verdictWord w 0b101#3 value (beq_iff_eq.mp clear)).symm⟩

namespace Machine

/-- Settles O40: the word of each constructor gives its fields back. -/
theorem decodeOfEncode : Obligations.DecodeOfEncode := decode_encode

/-- Settles O41: a word that decodes is made of the fields its kind reads, the reserved ones being 0. -/
theorem encodeOfDecode : Obligations.EncodeOfDecode := fun _ _ _ _ => encode_of_decode

end Machine
end Sys2Proof
end

section
/-!
PROOF. Every word is of one row of the opcode table or refused (spec 30 R69, R70): the words that decode are those whose kind
has a meaning and whose reserved field is clear, these are the words of the rows, and each other word has its ground.
-/

namespace Sys2Proof

/-! ## The reserved field of a kind (R66) -/

/-- The lowest bit of the reserved field of a kind. -/
def TxnKind.reservedLow : TxnKind → Nat
  | .event => 16
  | .batch => 1
  | .rx => 16
  | .tick => 0
  | .shutdown => 0
  | .reset => 1

/-- The width of the reserved field of a kind. -/
def TxnKind.reservedWidth : TxnKind → Nat
  | .event => 2
  | .batch => 20
  | .rx => 5
  | .tick => 21
  | .shutdown => 21
  | .reset => 20

/-- The reserved field of a word of kind `k`: the field `decodeKind` tests. -/
def TxnKind.reservedField (k : TxnKind) (w : TxnWord) : BitVec k.reservedWidth :=
  w.extractLsb' k.reservedLow k.reservedWidth

theorem plainTxn_of_clear {n : Nat} {r : BitVec n} (clear : r = 0) (i : Instr) : plainTxn (r == 0) [] i = .ok i :=
  (plainTxn_ok _ _ _ _).mpr ⟨beq_iff_eq.mpr clear, rfl, rfl⟩

theorem plainTxn_of_nonzero {n : Nat} {r : BitVec n} (nonzero : r ≠ 0) (payload : Datagram) (i : Instr) :
    plainTxn (r == 0) payload i = .error .reservedBits := by
  rw [beq_eq_false_iff_ne.mpr nonzero]
  rfl

theorem rxTxn_of_nonzero {w : TxnWord} (nonzero : wordRxReserved w ≠ 0) (payload : Datagram) :
    rxTxn w payload = .error .reservedBits :=
  if_pos (bne_iff_ne.mpr nonzero)

theorem decodeKind_of_nonzero {k : TxnKind} {w : TxnWord} (nonzero : k.reservedField w ≠ 0) (u : UnitId) (payload : Datagram) :
    decodeKind u w payload k = .error .reservedBits := by
  cases k with
  | rx => exact rxTxn_of_nonzero nonzero payload
  | event | batch | tick | shutdown | reset => exact plainTxn_of_nonzero nonzero payload _

/-- A word of a kind that has a meaning, with its reserved field clear, decodes at a unit that accepts the kind, an RX with a
payload of its length. -/
theorem decodes_of_clear {w : TxnWord} {k : TxnKind} (kind : kindOf (wordKind w) = some k) (clear : k.reservedField w = 0) :
    ∃ u payload i, decode u w payload = .ok i := by
  have decodes {u payload i} (accepted : k.acceptedBy u = true) (fields : decodeKind u w payload k = .ok i) :
      ∃ u payload i, decode u w payload = .ok i :=
    ⟨u, payload, i, (decode_ok u w payload i).mpr ⟨k, kind, accepted, fields⟩⟩
  cases k with
  | event | batch => exact decodes (u := .txu) (payload := []) rfl (plainTxn_of_clear clear _)
  | tick | shutdown | reset => exact decodes (u := .rxu) (payload := []) rfl (plainTxn_of_clear clear _)
  | rx =>
    have fits : payloadFits (wordLow16 w) (List.replicate (wordLow16 w).toNat 0) = true :=
      beq_iff_eq.mpr List.length_replicate
    exact decodes (u := .rxu) rfl ((rxTxn_ok _ _ _).mpr ⟨clear, fits, rfl⟩)

/-! ## The grounds of R69 -/

theorem decode_reservedKind {w : TxnWord} (kind : kindOf (wordKind w) = none) (u : UnitId) (payload : Datagram) :
    decode u w payload = .error .reservedKind := by
  simp [decode, kind]

theorem decode_wrongUnit {w : TxnWord} {k : TxnKind} (kind : kindOf (wordKind w) = some k) {u : UnitId}
    (rejected : k.acceptedBy u = false) (payload : Datagram) : decode u w payload = .error .wrongUnit := by
  simp [decode, kind, rejected]

theorem decode_reservedBits {w : TxnWord} {k : TxnKind} (kind : kindOf (wordKind w) = some k) {u : UnitId}
    (accepted : k.acceptedBy u = true) (nonzero : k.reservedField w ≠ 0) (payload : Datagram) :
    decode u w payload = .error .reservedBits := by
  simp [decode, kind, accepted, decodeKind_of_nonzero nonzero]

/-- A word of a reserved kind or with a non-zero reserved field is refused for one of the grounds (a), (b), (c). -/
theorem decode_refused {w : TxnWord} (notClear : ∀ k, kindOf (wordKind w) = some k → k.reservedField w ≠ 0) (u : UnitId)
    (payload : Datagram) :
    decode u w payload = .error .reservedKind ∨ decode u w payload = .error .reservedBits ∨
      decode u w payload = .error .wrongUnit := by
  cases kind : kindOf (wordKind w) with
  | none => exact .inl (decode_reservedKind kind u payload)
  | some k =>
    cases accepted : k.acceptedBy u with
    | true => exact .inr (.inl (decode_reservedBits kind accepted (notClear k kind) payload))
    | false => exact .inr (.inr (decode_wrongUnit kind accepted payload))

/-! ## The rows of the opcode table (R70) -/

/-- Two rows whose matches differ on a bit that both masks hold. -/
abbrev RowsDisjoint (r q : TxnWord × TxnWord) : Prop := r.1 &&& q.2 ≠ q.1 &&& r.2

theorem RowsDisjoint.not_both {r q : TxnWord × TxnWord} (disjoint : RowsDisjoint r q) {w : TxnWord} (hr : w &&& r.2 = r.1)
    (hq : w &&& q.2 = q.1) : False := by
  apply disjoint
  rw [← hr, ← hq, BitVec.and_assoc, BitVec.and_assoc, BitVec.and_comm r.2]

theorem opcodeRows_pairwise_disjoint : opcodeRows.Pairwise RowsDisjoint := by decide

/-- The rows a word matches. -/
def matchedRows (w : TxnWord) : List (TxnWord × TxnWord) := opcodeRows.filter fun r => w &&& r.2 == r.1

theorem mem_matchedRows {w : TxnWord} {r : TxnWord × TxnWord} :
    r ∈ matchedRows w ↔ r ∈ opcodeRows ∧ w &&& r.2 = r.1 := by
  simp [matchedRows]

theorem matchedRows_length_le_one (w : TxnWord) : (matchedRows w).length ≤ 1 := by
  have disjoint : (matchedRows w).Pairwise RowsDisjoint := opcodeRows_pairwise_disjoint.filter _
  have matched : ∀ r ∈ matchedRows w, w &&& r.2 = r.1 := fun r h => (mem_matchedRows.mp h).2
  match rows : matchedRows w with
  | [] | [_] => simp
  | r :: q :: _ =>
    rw [rows] at disjoint matched
    exact (((List.pairwise_cons.mp disjoint).1 q (by simp)).not_both (matched r (by simp)) (matched q (by simp))).elim

/-- The word of a transaction lies in the row of its constructor. -/
theorem tableRow (i : Instr) : Laws.TableRow.Statement i := by
  cases i with
  | evLsx val => exact Laws.TableRow.evLsx val
  | evLsy val => exact Laws.TableRow.evLsy val
  | evRsx val => exact Laws.TableRow.evRsx val
  | evRsy val => exact Laws.TableRow.evRsy val
  | evBoost val => exact Laws.TableRow.evBoost val
  | evId5 val => exact Laws.TableRow.evId5 val
  | evId6 val => exact Laws.TableRow.evId6 val
  | evId7 val => exact Laws.TableRow.evId7 val
  | batch sendOk => exact Laws.TableRow.batch sendOk
  | rx len payload => exact Laws.TableRow.rx len payload
  | tick => exact Laws.TableRow.tick
  | shutdown u => exact Laws.TableRow.shutdown u
  | reset u ok => exact Laws.TableRow.reset u ok

theorem matchedRows_word (i : Instr) : matchedRows i.word = [(i.rowMatch, i.rowMask)] := by
  obtain ⟨row, listed⟩ := tableRow i
  have mem : (i.rowMatch, i.rowMask) ∈ matchedRows i.word := mem_matchedRows.mpr ⟨listed, row⟩
  obtain ⟨r, single⟩ := List.length_eq_one_iff.mp
    (Nat.le_antisymm (matchedRows_length_le_one i.word) (List.length_pos_of_mem mem))
  rw [single, List.mem_singleton] at mem
  rw [single, mem]

theorem matchedRows_of_decode {u : UnitId} {w : TxnWord} {payload : Datagram} {i : Instr} (h : decode u w payload = .ok i) :
    matchedRows w = [(i.rowMatch, i.rowMask)] := by
  have word : i.word = w := congrArg Txn.word (encode_of_decode h).2
  rw [← word, matchedRows_word]

/-- A field that a row's mask covers is the field of the row's match. -/
theorem extract_of_row {w mask bits : TxnWord} {lo n : Nat} (row : w &&& mask = bits)
    (covered : mask.extractLsb' lo n = BitVec.allOnes n) : w.extractLsb' lo n = bits.extractLsb' lo n := by
  rw [← row, BitVec.extractLsb'_and, covered, BitVec.and_allOnes]

/-- A row covers the kind, which has a meaning, and that kind's reserved field, which is clear. -/
abbrev RowFixesKind (r : TxnWord × TxnWord) (k : TxnKind) : Prop :=
  wordKind r.2 = BitVec.allOnes 3 ∧ k.reservedField r.2 = BitVec.allOnes k.reservedWidth ∧ k.reservedField r.1 = 0

theorem opcodeRows_fix_kind {r : TxnWord × TxnWord} (listed : r ∈ opcodeRows) :
    ∃ k, kindOf (wordKind r.1) = some k ∧ RowFixesKind r k := by
  simp only [opcodeRows, List.mem_append, List.mem_cons, List.not_mem_nil, or_false] at listed
  rcases listed with (rfl | rfl | rfl | rfl | rfl | rfl | rfl | rfl) | rfl | rfl | rfl | rfl | rfl
  iterate 8 exact ⟨.event, rfl, by decide⟩
  · exact ⟨.batch, rfl, by decide⟩
  · exact ⟨.rx, rfl, by decide⟩
  · exact ⟨.tick, rfl, by decide⟩
  · exact ⟨.shutdown, rfl, by decide⟩
  · exact ⟨.reset, rfl, by decide⟩

theorem clear_of_row {w : TxnWord} {r : TxnWord × TxnWord} (listed : r ∈ opcodeRows) (row : w &&& r.2 = r.1) :
    ∃ k, kindOf (wordKind w) = some k ∧ k.reservedField w = 0 := by
  obtain ⟨k, kind, kindCovered, fieldCovered, clear⟩ := opcodeRows_fix_kind listed
  have sameKind : wordKind w = wordKind r.1 := extract_of_row row kindCovered
  exact ⟨k, sameKind ▸ kind, (extract_of_row row fieldCovered).trans clear⟩

/-- A word that matches no row has a reserved kind or a non-zero reserved field, since otherwise it decodes. -/
theorem not_clear_of_no_row {w : TxnWord} (noRow : ∀ r ∈ opcodeRows, w &&& r.2 ≠ r.1) {k : TxnKind}
    (kind : kindOf (wordKind w) = some k) : k.reservedField w ≠ 0 := by
  intro clear
  obtain ⟨u, payload, i, decoded⟩ := decodes_of_clear kind clear
  have mem : (i.rowMatch, i.rowMask) ∈ matchedRows w := by simp [matchedRows_of_decode decoded]
  obtain ⟨listed, row⟩ := mem_matchedRows.mp mem
  exact noRow _ listed row

/-! ## Words as concatenations of fields (R66) -/

theorem kindOf_append (k : BitVec 3) (low : BitVec 21) : kindOf (wordKind (k ++ low)) = kindOf k :=
  congrArg kindOf BitVec.extractLsb'_append_eq_left

theorem extract_high {h m n lo : Nat} (k : BitVec h) (r : BitVec m) (low : BitVec n) (width : lo = m + n) :
    (k ++ r ++ low).extractLsb' lo h = k := by
  rw [BitVec.extractLsb'_append_eq_of_le (by omega), show lo - n = m by omega, BitVec.extractLsb'_append_eq_left]

theorem extract_middle {h m n : Nat} (k : BitVec h) (r : BitVec m) (low : BitVec n) :
    (k ++ r ++ low).extractLsb' n m = r := by
  rw [BitVec.extractLsb'_append_eq_of_le (Nat.le_refl n), Nat.sub_self, BitVec.extractLsb'_append_eq_right]

theorem kindOf_eventFields (k id : BitVec 3) (r : BitVec 2) (val : BitVec 16) :
    kindOf (wordKind ((k ++ id) ++ (r ++ val))) = kindOf k :=
  congrArg kindOf (extract_high k id (r ++ val) rfl)

theorem kindOf_verdictFields (k : BitVec 3) (r : BitVec 20) (b : BitVec 1) :
    kindOf (wordKind ((k ++ r) ++ b)) = kindOf k :=
  congrArg kindOf (extract_high k r b rfl)

theorem kindOf_rxFields (k : BitVec 3) (r : BitVec 5) (len : BitVec 16) :
    kindOf (wordKind ((k ++ r) ++ len)) = kindOf k :=
  congrArg kindOf (extract_high k r len rfl)

theorem wordEventReserved_append (id : BitVec 3) (r : BitVec 2) (val : BitVec 16) :
    wordEventReserved ((0b000#3 ++ id) ++ (r ++ val)) = r :=
  (BitVec.extractLsb'_append_eq_of_add_le (xhi := 0b000#3 ++ id) (xlo := r ++ val) (by decide)).trans
    BitVec.extractLsb'_append_eq_left

namespace Machine

theorem step_of_refused {s : State} {x : Txn} {rest : List Txn} {why : Reject} (waiting : s.inputs = x :: rest)
    (refused : x.decode = .error why) : step s = .refused (.rejected why) := by
  simp [step, waiting, refused]

/-- Settles O42: the rows exclude one another, and a word matches one exactly where its kind has a meaning and its reserved
field is clear. -/
theorem everyWordIsOneRowOrRefused : Obligations.EveryWordIsOneRowOrRefused := by
  refine ⟨matchedRows_length_le_one, fun _ _ _ _ => matchedRows_of_decode, ?_, ?_⟩
  · rintro w ⟨r, listed, row⟩
    obtain ⟨k, kind, clear⟩ := clear_of_row listed row
    exact decodes_of_clear kind clear
  · exact fun u w payload noRow => decode_refused (fun _ => not_clear_of_no_row noRow) u payload

/-- Settles O43: each ground by the fields of the word, and EVENT identifiers 101 to 111 as words of the encoder. -/
theorem refusalGroundsOfTheWord : Obligations.RefusalGroundsOfTheWord := by
  refine ⟨?reservedKinds, ?event, ?verdict, ?rx, ?bare, ?units, ?ignoredEvents, fun _ _ _ _ => step_of_refused⟩
  case reservedKinds =>
    exact fun u low payload =>
      ⟨decode_reservedKind (kindOf_append 0b110#3 low) u payload, decode_reservedKind (kindOf_append 0b111#3 low) u payload⟩
  case event =>
    intro id r val payload nonzero
    exact decode_reservedBits (kindOf_eventFields 0b000#3 id r val) rfl
      (ne_of_eq_of_ne (wordEventReserved_append id r val) nonzero) payload
  case verdict =>
    intro r b payload nonzero
    exact ⟨decode_reservedBits (kindOf_verdictFields 0b001#3 r b) rfl
        (ne_of_eq_of_ne (extract_middle 0b001#3 r b) nonzero) payload,
      fun u => decode_reservedBits (kindOf_verdictFields 0b101#3 r b) rfl
        (ne_of_eq_of_ne (extract_middle 0b101#3 r b) nonzero) payload⟩
  case rx =>
    intro r len payload nonzero
    exact decode_reservedBits (kindOf_rxFields 0b010#3 r len) rfl
      (ne_of_eq_of_ne (extract_middle 0b010#3 r len) nonzero) payload
  case bare =>
    intro r payload nonzero
    exact ⟨decode_reservedBits (kindOf_append 0b011#3 r) rfl
        (ne_of_eq_of_ne (BitVec.extractLsb'_append_eq_right (a := 0b011#3)) nonzero) payload,
      fun u => decode_reservedBits (kindOf_append 0b100#3 r) rfl
        (ne_of_eq_of_ne (BitVec.extractLsb'_append_eq_right (a := 0b100#3)) nonzero) payload⟩
  case units =>
    exact fun low payload =>
      ⟨decode_wrongUnit (kindOf_append 0b000#3 low) rfl payload, decode_wrongUnit (kindOf_append 0b001#3 low) rfl payload,
        decode_wrongUnit (kindOf_append 0b010#3 low) rfl payload, decode_wrongUnit (kindOf_append 0b011#3 low) rfl payload⟩
  case ignoredEvents => exact fun val => ⟨decode_eventWord 5 val, decode_eventWord 6 val, decode_eventWord 7 val⟩

end Machine
end Sys2Proof
end

section
/-!
PROOF. The words written out for a trace (spec 30 R71).
-/

namespace Sys2Proof

/-- A word with `val` in its low 16 bits is the constant of its high bits or-ed with `val`. -/
theorem eq_or_setWidth {w : TxnWord} {n : Nat} {val : BitVec 16} (value : w.toNat = n * 2 ^ 16 + val.toNat) :
    w = BitVec.ofNat 24 (n * 2 ^ 16) ||| val.setWidth 24 := by
  have := w.isLt
  have := val.isLt
  apply BitVec.eq_of_toNat_eq
  rw [BitVec.toNat_or, BitVec.toNat_ofNat, BitVec.toNat_setWidth, Nat.mod_eq_of_lt (by omega), Nat.mod_eq_of_lt (by omega),
    value, ← Nat.shiftLeft_eq, Nat.shiftLeft_add_eq_or_of_lt val.isLt]

theorem eventWord_eq_or (id : BitVec 3) (val : BitVec 16) :
    eventWord id val = BitVec.ofNat 24 (id.toNat * 4 * 2 ^ 16) ||| val.setWidth 24 :=
  eq_or_setWidth (by rw [eventWord_toNat]; omega)

theorem rxWord_eq_or (len : BitVec 16) (payload : Datagram) :
    (Instr.rx len payload).word = 0x400000#24 ||| len.setWidth 24 :=
  eq_or_setWidth (n := 64) (rxWord_toNat len payload)

namespace Machine

/-- Settles O44: the value-carrying words by their numeric values, and the fixed words as words of the encoder. -/
theorem wordsOfTheTraceNotation : Obligations.WordsOfTheTraceNotation := by
  refine ⟨fun val => ⟨?_, ?_, ?_, ?_, ?_, ?_, ?_, ?_, rxWord_eq_or val⟩, ?_, ?_, ?_, ?_, ?_, ?_, ?_, ?_⟩
  · exact eventWord_eq_or 0 val
  · exact eventWord_eq_or 1 val
  · exact eventWord_eq_or 2 val
  · exact eventWord_eq_or 3 val
  · exact eventWord_eq_or 4 val
  · exact eventWord_eq_or 5 val
  · exact eventWord_eq_or 6 val
  · exact eventWord_eq_or 7 val
  · exact decode_eventWord 3 0x01FF
  · exact decode_eventWord 4 0xFFFF
  · exact decode_batchWord true
  · exact decode_rxWord 2 [0xAB, 0xCD] rfl
  · exact decode_tickWord
  · exact decode_shutdownWord .rxu
  · exact decode_resetWord .txu true
  · exact decode_resetWord .rxu false

end Machine
end Sys2Proof
end

section
/-!
PROOF. Every step keeps what the ports have carried legal (spec 30 R62, 40 R104, 42 R146, 60 R212).
-/

namespace Sys2Proof.Machine

open Sys2Proof

@[simp] theorem State.datagrams_raise (s : State) (code : LogCode) : (s.raise code).datagrams = s.datagrams := by
  simp [State.datagrams]

/-- A transaction sends no datagram, or one, the current one (R104, R105). -/
theorem Effect.datagrams {i : Instr} {s t : State} (h : Effect i s t) :
    t.datagrams = s.datagrams ∨ t.datagrams = s.datagrams ++ [s.datagram] := by
  cases h with
  | batchSent => exact .inr (by simp)
  | _ => exact .inl (by simp)

/-- The current datagram has the TXU's own form. -/
theorem State.datagram_legal (s : State) : legalDatagram s.config.txuWireLen.bytes s.datagram :=
  ⟨serialize_length _ _, s.txu.lsx, s.txu.rsy, s.txu.boost, s.datagram_eq⟩

/-- An effect keeps both traces legal: each is as it was, or carries one legal entry more. -/
theorem Effect.keeps_traceInvariant {i : Instr} {s t : State} (h : Effect i s t) (inv : TraceInvariant s) :
    TraceInvariant t := by
  obtain ⟨commands, datagrams⟩ := inv
  constructor
  · rcases h.commands with same | ⟨c, legal, more⟩
    · rwa [same]
    · rw [more]
      exact List.forall_mem_append.mpr ⟨commands, List.forall_mem_singleton.mpr legal⟩
  · rw [h.frame.1]
    rcases h.datagrams with same | more
    · rwa [same]
    · rw [more]
      exact List.forall_mem_append.mpr ⟨datagrams, List.forall_mem_singleton.mpr s.datagram_legal⟩

/-- Settles O47: every effect keeps both traces legal, whatever is waiting. -/
theorem stepKeepsTraceInvariant : Obligations.StepKeepsTraceInvariant :=
  step_keeps (fun _ _ => id) Effect.keeps_traceInvariant

end Sys2Proof.Machine
end

section
/-!
PROOF. PACK and SERIALIZE, byte by byte and as injections (spec 40 R106, R107, R108 (a), (b)).
-/

namespace Sys2Proof.Machine

open Sys2Proof

/-! ## PACK (R106) -/

theorem bit_eq_toNat_ofBool (b : Bool) : bit b = (BitVec.ofBool b).toNat := by
  cases b <;> rfl

theorem bit_le_one (b : Bool) : bit b ≤ 1 := by
  cases b <;> decide

/-- The three fields of PACK do not overlap, so it is their concatenation below 7 zero bits. -/
theorem pack_eq_append (x y : Byte) (boost : Bool) : pack x y boost = (0#7 ++ BitVec.ofBool boost) ++ (x ++ y) := by
  apply BitVec.eq_of_toNat_eq
  refine Eq.trans ?_ (toNat_append_add (0#7 ++ BitVec.ofBool boost) (x ++ y)).symm
  rw [pack_toNat, bit_eq_toNat_ofBool, toNat_append_add, toNat_append_add]
  simp

/-- The value of PACK with `|` as concatenation. -/
theorem pack_toNat_eq_or (x y : Byte) (boost : Bool) :
    (pack x y boost).toNat = x.toNat <<< 8 ||| y.toNat ||| bit boost <<< 16 := by
  have high : (0#7 ++ BitVec.ofBool boost).toNat = bit boost := by
    rw [toNat_append_add, bit_eq_toNat_ofBool]
    simp
  calc (pack x y boost).toNat
      = (0#7 ++ BitVec.ofBool boost).toNat <<< 16 ||| (x ++ y).toNat :=
        (congrArg BitVec.toNat (pack_eq_append x y boost)).trans (BitVec.toNat_append _ (x ++ y))
    _ = x.toNat <<< 8 ||| y.toNat ||| bit boost <<< 16 := by rw [high, BitVec.toNat_append, Nat.or_comm]

theorem pack_toNat_le (x y : Byte) (boost : Bool) : (pack x y boost).toNat ≤ 0x01FFFF := by
  have := bit_le_one boost
  have := x.isLt
  have := y.isLt
  rw [pack_toNat]
  omega

/-- UNPACK's field extraction undoes PACK, its inversion of y being one to one, so no two triples have one frame. -/
theorem pack_injective {x y x' y' : Byte} {boost boost' : Bool} (same : pack x y boost = pack x' y' boost') :
    x = x' ∧ y = y' ∧ boost = boost' := by
  have fields := congrArg (fun f : Frame => fieldsOf f.toNat) same
  simp only [fieldsOf_pack, Decoded.mk.injEq, BitVec.sub_right_inj] at fields
  obtain ⟨hboost, hx, hy⟩ := fields
  exact ⟨hx, hy, hboost⟩

/-- Settles O6: PACK as a concatenation, and the bound on its value. -/
theorem packConcatenatesFields : Obligations.PackConcatenatesFields := by
  refine ⟨fun x y boost => ⟨pack_toNat_eq_or x y boost, pack_eq_append x y boost, ?_, pack_toNat_le x y boost⟩,
    by decide, by decide, fun _ _ _ => rfl⟩
  rw [pack_eq_append]
  exact extract_high 0#7 (BitVec.ofBool boost) (x ++ y) rfl

/-! ## SERIALIZE (R107) -/

/-- SERIALIZE writes the bytes of the frame in the order of their indices. -/
theorem serialize_eq_map (f : Frame) (w : WireLen) :
    serialize f w.bytes = (List.range w.bytes).map (frameByte f w.bytes) := by
  cases w <;> rfl

theorem memRead_serialize (f : Frame) (w : WireLen) {i : Nat} (inside : i < w.bytes) :
    memRead (serialize f w.bytes) i = some (frameByte f w.bytes i) := by
  simp [serialize_eq_map, memRead, inside]

/-- Every byte before the last three is 0, because a frame is less than 2^24. -/
theorem frameByte_high (f : Frame) {n i : Nat} (high : i + 3 < n) : frameByte f n i = 0 := by
  have small : f.toNat < 2 ^ (8 * (n - 1 - i)) := f.isLt.trans_le (Nat.pow_le_pow_right (by decide) (by omega))
  apply BitVec.eq_of_toNat_eq
  rw [frameByte_toNat, Nat.div_eq_of_lt small]
  rfl

theorem frameByte_pack_boost (x y : Byte) (boost : Bool) {n i : Nat} (place : i + 3 = n) :
    frameByte (pack x y boost) n i = if boost then 1 else 0 := by
  have := x.isLt
  have := y.isLt
  apply BitVec.eq_of_toNat_eq
  rw [frameByte_toNat, pack_toNat, show 8 * (n - 1 - i) = 16 by omega]
  cases boost <;> simp [bit] <;> omega

theorem frameByte_pack_x (x y : Byte) (boost : Bool) {n i : Nat} (place : i + 2 = n) :
    frameByte (pack x y boost) n i = x := by
  have := x.isLt
  have := y.isLt
  apply BitVec.eq_of_toNat_eq
  rw [frameByte_toNat, pack_toNat, show 8 * (n - 1 - i) = 8 by omega]
  omega

theorem frameByte_pack_y (x y : Byte) (boost : Bool) {n i : Nat} (place : i + 1 = n) :
    frameByte (pack x y boost) n i = y := by
  have := y.isLt
  apply BitVec.eq_of_toNat_eq
  rw [frameByte_toNat, pack_toNat, show 8 * (n - 1 - i) = 0 by omega]
  omega

/-- The datagram of a packed frame: zeros, then boost, x and y. -/
theorem serialize_pack (x y : Byte) (boost : Bool) (w : WireLen) :
    serialize (pack x y boost) w.bytes = List.replicate (w.bytes - 3) 0 ++ [(if boost then 1 else 0), x, y] := by
  cases w with
  | w3 =>
    rw [WireLen.bytes, serialize_w3, frameByte_pack_boost x y boost rfl, frameByte_pack_x x y boost rfl,
      frameByte_pack_y x y boost rfl]
    rfl
  | w8 =>
    rw [WireLen.bytes, serialize_w8, frameByte_pack_boost x y boost rfl, frameByte_pack_x x y boost rfl,
      frameByte_pack_y x y boost rfl]
    simp [frameByte_high, List.replicate]

/-- The frame is the big-endian value of its datagram, so no two frames have one datagram. -/
theorem serialize_injective {f g : Frame} {w : WireLen} (same : serialize f w.bytes = serialize g w.bytes) : f = g := by
  have value := congrArg (memReadBE · w.bytes) same
  simp only [memReadBE_serialize, Option.some_inj] at value
  exact BitVec.eq_of_toNat_eq value

/-- Settles O7: each byte by its place, counted from the end. -/
theorem serializeIsBigEndian : Obligations.SerializeIsBigEndian := by
  refine ⟨fun f w => ⟨serialize_length f _, fun i inside => memRead_serialize f w inside⟩, ?zeros, ?boost,
    by decide, by decide⟩
  case zeros =>
    intro f i before
    exact (memRead_serialize f .w8 (by simp only [WireLen.bytes]; omega)).trans
      (congrArg some (frameByte_high f (Nat.add_lt_add_right before 3)))
  case boost =>
    intro x y boost
    exact (memRead_serialize _ .w8 (by decide)).trans (congrArg some (frameByte_pack_boost x y boost rfl))

end Sys2Proof.Machine
end

section
/-!
PROOF. The transactions of the TXU's encoder loop (spec 40 R101 to R105, R108 (c), (d)).
-/

namespace Sys2Proof.Machine

open Sys2Proof

/-- A transaction has one next state. -/
theorem Effect.eq_of_exec {i : Instr} {s t u : State} (h : Effect i s u) (taken : exec i s = .next t) : t = u :=
  Host.Outcome.next.inj (taken.symm.trans (exec_of_effect i s u h))

/-- Where a transaction leads to one state with or without another before it, the other one leaves no trace. -/
theorem exec_of_overwritten {i j : Instr} {s t t' u : State} (first : Effect i s t') (second : Effect j t' u)
    (alone : Effect j s u) (taken : exec i s = .next t) : exec j t = exec j s := by
  rw [first.eq_of_exec taken, exec_of_effect _ _ _ second, exec_of_effect _ _ _ alone]

/-- Where a transaction other than RESET does nothing in RUN, it does nothing in any mode. -/
theorem exec_eq_self {i : Instr} {s : State} (other : ∀ u ok, i ≠ .reset u ok)
    (running : s.modeOf i.unit = .run → Effect i s s) : exec i s = .next s := by
  by_cases run : s.modeOf i.unit = .run
  · exact exec_of_effect i s s (running run)
  · exact exec_of_effect i s s (.idle i s run other)

/-! ## EVENT (R101 to R103) -/

/-- The low byte of an event's value is that of its integer state, negative or not (R66, R101). -/
theorem axisOf_eventValue (n : Int) : axisOf (eventValue n) = BitVec.ofInt 8 n := by
  apply BitVec.eq_of_toNat_eq
  simp [axisOf, eventValue, BitVec.toNat_ofInt]
  omega

theorem State.datagram_writeLsy (s : State) (v : Byte) : (s.writeLsy v).datagram = s.datagram := rfl
theorem State.datagram_writeRsx (s : State) (v : Byte) : (s.writeRsx v).datagram = s.datagram := rfl

/-- Settles O1: each axis EVENT by its effect; two events for one register leave the last value in it. -/
theorem axisEventStoresLowByte : Obligations.AxisEventStoresLowByte := by
  refine ⟨?stores, fun _ => ⟨rfl, rfl, rfl, rfl⟩, axisOf_eventValue, ?lastWins, by decide, by decide⟩
  case stores =>
    exact fun val s run =>
      ⟨exec_of_effect _ _ _ (.evLsx val s run), exec_of_effect _ _ _ (.evLsy val s run),
        exec_of_effect _ _ _ (.evRsx val s run), exec_of_effect _ _ _ (.evRsy val s run)⟩
  case lastWins =>
    intro v w s t run
    refine ⟨?lsx, fun taken => ⟨?lsy, ?lsyUnsent⟩, fun taken => ⟨?rsx, ?rsxUnsent⟩, ?rsy⟩
    case lsx => exact exec_of_overwritten (.evLsx v s run) (.evLsx w _ run) (.evLsx w s run)
    case lsy => exact exec_of_overwritten (.evLsy v s run) (.evLsy w _ run) (.evLsy w s run) taken
    case rsx => exact exec_of_overwritten (.evRsx v s run) (.evRsx w _ run) (.evRsx w s run) taken
    case rsy => exact exec_of_overwritten (.evRsy v s run) (.evRsy w _ run) (.evRsy w s run)
    case lsyUnsent => rw [(Effect.evLsy v s run).eq_of_exec taken, s.datagram_writeLsy]
    case rsxUnsent => rw [(Effect.evRsx v s run).eq_of_exec taken, s.datagram_writeRsx]

/-- Settles O2: the effect of EVENT BOOST, whose test is that the value is not 0. -/
theorem boostEventStoresTruth : Obligations.BoostEventStoresTruth := by
  refine ⟨fun val s run => ?_, fun val => ⟨rfl, eventWord_eq_or 4 val⟩, by decide⟩
  rw [← boostOf_eq]
  exact exec_of_effect _ _ _ (.evBoost val s run)

theorem exec_evId5 (val : BitVec 16) (s : State) : exec (.evId5 val) s = .next s := exec_eq_self nofun (.evId5 val s)
theorem exec_evId6 (val : BitVec 16) (s : State) : exec (.evId6 val) s = .next s := exec_eq_self nofun (.evId6 val s)
theorem exec_evId7 (val : BitVec 16) (s : State) : exec (.evId7 val) s = .next s := exec_eq_self nofun (.evId7 val s)

/-- Settles O3: an EVENT with no register leaves the state it was given, so the BATCH after it starts from that state. -/
theorem otherEventHasNoEffect : Obligations.OtherEventHasNoEffect := by
  refine ⟨fun val s => ⟨exec_evId5 val s, exec_evId6 val s, exec_evId7 val s⟩, fun val sendOk s t taken => ?_, by decide⟩
  rw [exec_evId5, exec_evId6, exec_evId7, or_self, or_self] at taken
  rw [Host.Outcome.next.inj taken]

/-! ## BATCH (R104, R105, R108) -/

/-- The datagram depends only on `cs_lsx`, `cs_rsy`, `cs_boost` and `WIRE_LEN`. -/
theorem State.datagram_congr {s t : State} (lsx : s.txu.lsx = t.txu.lsx) (rsy : s.txu.rsy = t.txu.rsy)
    (boost : s.txu.boost = t.txu.boost) (wireLen : s.config.txuWireLen = t.config.txuWireLen) :
    s.datagram = t.datagram := by
  rw [State.datagram_eq, State.datagram_eq, lsx, rsy, boost, wireLen]

/-- A BATCH in RUN that the transport accepts sends the current datagram. -/
theorem datagrams_of_batch {s t : State} (run : s.txu.mode = .run) (taken : exec (.batch true) s = .next t) :
    t.datagrams = s.datagrams ++ [s.datagram] := by
  rw [(Effect.batchSent s run).eq_of_exec taken, State.datagrams_emitDatagram]

/-- Settles O4: the two verdicts of BATCH by their effects; a BATCH writes nothing that the next one reads. -/
theorem batchMakesOneSendAttempt : Obligations.BatchMakesOneSendAttempt := by
  refine ⟨?verdicts, fun x y boost w => ⟨serialize_length _ _, serialize_pack x y boost w⟩, ?again, by decide, by decide⟩
  case verdicts =>
    exact fun s run => ⟨exec_of_effect _ _ _ (.batchSent s run), exec_of_effect _ _ _ (.batchFailed s run)⟩
  case again =>
    intro first s t run taken
    obtain ⟨txu, -, config, -⟩ := frameOfBatch first s t taken
    have same : t.datagram = s.datagram := State.datagram_congr (by rw [txu]) (by rw [txu]) (by rw [txu]) (by rw [config])
    rw [← same]
    exact exec_of_effect _ _ _ (.batchSent t (txu ▸ run))

/-- Settles O5: of all effects, only that of an accepted BATCH adds to `dg_out`. -/
theorem onlyBatchEmitsDatagrams : Obligations.OnlyBatchEmitsDatagrams := by
  intro i s t taken
  cases effect_of_exec i s t taken with
  | batchSent _ run => exact .inr ⟨rfl, run, s.datagrams_emitDatagram _⟩
  | _ => exact .inl (by simp)

/-- Settles O8: PACK and SERIALIZE each have a left inverse, and a BATCH sends SERIALIZE of PACK. -/
theorem encoderIsInjective : Obligations.EncoderIsInjective := by
  refine ⟨fun _ _ _ _ _ _ => pack_injective, fun _ _ _ => serialize_injective, ?_, fun _ => rfl⟩
  intro s t s' t' runS runT lsx rsy boost wireLen before sentS sentT
  rw [datagrams_of_batch runS sentS, datagrams_of_batch runT sentT, before, State.datagram_congr lsx rsy boost wireLen]

end Sys2Proof.Machine
end


section
/-!
PROOF. The RXU's receive path: UNPACK of every buffer (spec 41 R122 to R125), and what RX and TICK write (41 R120, R121,
43 R162, R163).
-/

namespace Sys2Proof.Machine

open Sys2Proof

/-! ## UNPACK (R122 to R125) -/

/-- The field extraction in arithmetic, with y inverted (R122, R123). -/
theorem fieldsOf_eq (msg : Nat) :
    fieldsOf msg = ⟨msg / 2 ^ 16 % 2 == 1, BitVec.ofNat 8 (msg / 2 ^ 8), 255 - BitVec.ofNat 8 msg⟩ := by
  have low (n : Nat) : BitVec.ofNat 8 (n &&& 0xFF) = BitVec.ofNat 8 n :=
    BitVec.eq_of_toNat_eq (by simp [Nat.and_two_pow_sub_one_eq_mod _ 8])
  simp only [fieldsOf, decodeY, yInvert, low, Nat.and_one_is_mod, Nat.shiftRight_eq_div_pow, if_true]

/-- One byte more at the end of what is read. -/
theorem memReadBE_succ {b : Datagram} {n hi : Nat} {v : Byte} (before : memReadBE b n = some hi)
    (last : memRead b n = some v) : memReadBE b (n + 1) = some (hi * 256 + v.toNat) := by
  simp [memReadBE, before, last]

/-- The bytes before the last three only add multiples of 2^24 to the big-endian value (R42). -/
theorem memReadBE_last_three (before : Datagram) (f2 f1 f0 : Byte) :
    ∃ hi, memReadBE (before ++ [f2, f1, f0]) (before.length + 3) =
      some (((hi * 256 + f2.toNat) * 256 + f1.toNat) * 256 + f0.toNat) := by
  obtain ⟨hi, read⟩ := memReadBE_isSome (before ++ [f2, f1, f0]) before.length (by simp)
  have read2 := memReadBE_succ read (v := f2) (by simp [memRead])
  have read1 := memReadBE_succ read2 (v := f1) (by simp [memRead])
  exact ⟨hi, memReadBE_succ read1 (by simp [memRead])⟩

theorem ofNat_add_byte (n : Nat) (v : Byte) : BitVec.ofNat 8 (n * 256 + v.toNat) = v := by
  apply BitVec.eq_of_toNat_eq
  simp [Nat.mul_add_mod_of_lt v.isLt]

theorem add_byte_mod_two (n : Nat) (v : Byte) : ((n * 256 + v.toNat) % 2 == 1) = v.getLsbD 0 := by
  rw [show (n * 256 + v.toNat) % 2 = v.toNat % 2 by omega, BitVec.getLsbD, Nat.testBit_zero]
  rfl

theorem add_byte_div (n : Nat) (v : Byte) : (n * 256 + v.toNat) / 2 ^ 8 = n := by
  have := v.isLt
  omega

theorem add_two_bytes_div (n : Nat) (v u : Byte) : ((n * 256 + v.toNat) * 256 + u.toNat) / 2 ^ 16 = n := by
  rw [Nat.pow_add 2 8 8, ← Nat.div_div_eq_div_mul, add_byte_div, add_byte_div]

/-- The division by 2^16 drops f1 and f0, that by 2^8 drops f0, and no field looks at `hi` (R122). -/
theorem fieldsOf_last_three (hi : Nat) (f2 f1 f0 : Byte) :
    fieldsOf (((hi * 256 + f2.toNat) * 256 + f1.toNat) * 256 + f0.toNat) = ⟨f2.getLsbD 0, f1, 255 - f0⟩ := by
  rw [fieldsOf_eq, add_two_bytes_div, add_byte_mod_two, add_byte_div, ofNat_add_byte, ofNat_add_byte]

/-- Settles O9: the last three bytes by the big-endian value, whose higher bits no field reads. -/
theorem unpackReadsThreeBytes : Obligations.UnpackReadsThreeBytes := by
  refine ⟨?bytes, ?value, by decide⟩
  case bytes =>
    intro w before f2 f1 f0 length
    obtain ⟨hi, read⟩ := memReadBE_last_three before f2 f1 f0
    rw [← length, unpack, read, Option.map_some, fieldsOf_last_three]
  case value =>
    intro w b length
    obtain ⟨msg, read⟩ := memReadBE_isSome b w.bytes length.ge
    exact ⟨msg, read, by rw [unpack, read, Option.map_some, fieldsOf_eq]⟩

/-- Settles O10: UNPACK after SERIALIZE after PACK, at any y and at its two ends. -/
theorem unpackOfPackInvertsY : Obligations.UnpackOfPackInvertsY :=
  ⟨unpack_serialize_pack, fun x boost w =>
    ⟨congrArg (Option.map (·.y)) (unpack_serialize_pack x 0 boost w),
      congrArg (Option.map (·.y)) (unpack_serialize_pack x 255 boost w)⟩⟩

/-! ## RX and TICK (R120, R121, R162, R163) -/

/-- Settles O12: the effect of an RX of another length. -/
theorem rxOfWrongLengthIsDropped : Obligations.RxOfWrongLengthIsDropped :=
  fun len payload s run length => exec_of_effect _ _ _ (.rxDropped len payload s run length)

/-- Settles O37: a frame has the accepted length and an expiry has the full count; the other effects write no register but
`wd_count`. -/
theorem frameOfRxAndTick : Obligations.FrameOfRxAndTick := by
  refine ⟨fun len b s t taken => ?rx, fun s t taken => ?tick⟩
  case rx =>
    cases effect_of_exec _ s t taken with
    | idle | rxDropped => simp
    | rxFrame _ _ _ d _ length => simp [length]
  case tick =>
    cases effect_of_exec _ s t taken with
    | idle | tickCounted => simp
    | tickExpired _ _ reached => simp [reached]

end Sys2Proof.Machine
end


section
/-!
PROOF. The mapper (spec 42): the values of the servo and motor maps (R143 to R146), the printed tables (R147, R148), the
floating-point evaluation (R141, R142), and the laws (R149).
-/

namespace Sys2Proof.Machine

open Sys2Proof

/-! ## The number of values of a map -/

theorem nodup_eraseDups {α : Type*} [BEq α] [LawfulBEq α] : (l : List α) → l.eraseDups.Nodup
  | [] => List.nodup_nil
  | a :: as => by
    rw [List.eraseDups_cons, List.nodup_cons]
    exact ⟨by simp [List.mem_eraseDups], nodup_eraseDups _⟩
termination_by l => l.length
decreasing_by exact Nat.lt_succ_of_le (List.length_filter_le _ as)

/-- A map of bytes whose values are exactly the numbers from `lo` to `lo + count - 1` takes `count` distinct values. -/
theorem length_eraseDups_of_image {w : Nat} (f : Byte → BitVec w) (lo count : Nat)
    (image : ∀ d, (∃ v, (f v).toNat = d) ↔ lo ≤ d ∧ d < lo + count) :
    ((List.range 256).map fun n => f (BitVec.ofNat 8 n)).eraseDups.length = count := by
  set values := ((List.range 256).map fun n => f (BitVec.ofNat 8 n)).eraseDups
  have distinct : (values.map BitVec.toNat).Nodup := (nodup_eraseDups _).map BitVec.toNat_injective
  have members (d : Nat) : d ∈ values.map BitVec.toNat ↔ d ∈ List.range' lo count := by
    rw [List.mem_range'_1, ← image d]
    constructor
    · intro taken
      obtain ⟨n, -, rfl⟩ : ∃ n < 256, (f (BitVec.ofNat 8 n)).toNat = d := by
        simpa [values, List.mem_eraseDups] using taken
      exact ⟨_, rfl⟩
    · rintro ⟨v, rfl⟩
      have listed : f v ∈ values :=
        List.mem_eraseDups.mpr (List.mem_map.mpr ⟨v.toNat, List.mem_range.mpr v.isLt, by simp⟩)
      exact List.mem_map_of_mem listed
  have perm := (List.perm_ext_iff_of_nodup distinct List.nodup_range').mpr members
  simpa using perm.length_eq

theorem toNat_succ_byte {v : Byte} (notLast : v ≠ 255) : (v + 1).toNat = v.toNat + 1 := by
  bv_omega

/-! ## The servo and motor maps (R143 to R146) -/

theorem servoMap_antitone_step {x : Byte} (notLast : x ≠ 255) : (servoMap (x + 1)).toNat ≤ (servoMap x).toNat := by
  rw [servoMap_toNat, servoMap_toNat, toNat_succ_byte notLast]
  omega

/-- Every duty from 90 to 210 is the servo map's value at the last x whose exact value is not below it (R143). -/
theorem servoMap_image (d : Nat) : (∃ x, (servoMap x).toNat = d) ↔ 90 ≤ d ∧ d < 90 + 121 := by
  constructor
  · rintro ⟨x, rfl⟩
    have := servoMap_range x
    omega
  · intro range
    have last : (53550 - 255 * d) / 120 < 256 := by omega
    refine ⟨BitVec.ofNat 8 ((53550 - 255 * d) / 120), ?_⟩
    rw [servoMap_toNat, BitVec.toNat_ofNat, Nat.mod_eq_of_lt last]
    omega

theorem motorMap_range_plain (y : Byte) : 1400 ≤ (motorMap y false).toNat ∧ (motorMap y false).toNat ≤ 1600 := by
  have := y.isLt
  rw [motorMap_toNat_plain]
  omega

/-- Every duty from 1400 to 1600 is the motor map's value, without boost, at the first y whose exact value reaches it (R144). -/
theorem motorMap_image_plain (d : Nat) : (∃ y, (motorMap y false).toNat = d) ↔ 1400 ≤ d ∧ d < 1400 + 201 := by
  constructor
  · rintro ⟨y, rfl⟩
    have := motorMap_range_plain y
    omega
  · intro range
    have first : (255 * d - 357000 + 199) / 200 < 256 := by omega
    refine ⟨BitVec.ofNat 8 ((255 * d - 357000 + 199) / 200), ?_⟩
    rw [motorMap_toNat_plain, BitVec.toNat_ofNat, Nat.mod_eq_of_lt first]
    omega

theorem motorMap_plain_eq_1500_iff (y : Byte) : motorMap y false = 1500 ↔ y = 128 := by
  rw [← BitVec.toNat_inj, ← BitVec.toNat_inj, motorMap_toNat_plain]
  change _ = 1500 ↔ _ = 128
  omega

theorem motorMap_boost_ne_1500 (y : Byte) : motorMap y true ≠ 1500 := by
  rw [Ne, ← BitVec.toNat_inj, motorMap_toNat_boost]
  change _ ≠ 1500
  omega

theorem motorMap_plain_step {y : Byte} (notLast : y ≠ 255) :
    (motorMap y false).toNat ≤ (motorMap (y + 1) false).toNat := by
  rw [motorMap_toNat_plain, motorMap_toNat_plain, toNat_succ_byte notLast]
  omega

theorem motorMap_boost_step {y : Byte} (notLast : y ≠ 255) :
    (motorMap y true).toNat < (motorMap (y + 1) true).toNat := by
  rw [motorMap_toNat_boost, motorMap_toNat_boost, toNat_succ_byte notLast]
  omega

/-- Settles O13: the closed form, its value at the listed x, and the image [90, 210], which counts the values. -/
theorem servoMapValues : Obligations.ServoMapValues :=
  ⟨fun x => ⟨servoMap_toNat x, servoMap_range x⟩, by decide, by decide, by decide, by decide, by decide, by decide,
    fun _ => servoMap_antitone_step, length_eraseDups_of_image servoMap 90 121 servoMap_image⟩

/-- Settles O14: the two closed forms, their values at the listed y, and the image [1400, 1600] without boost. -/
theorem motorMapValues : Obligations.MotorMapValues := by
  refine ⟨rfl, rfl, fun y => ?forms, by decide, by decide,
    fun y => ⟨motorMap_boost_ne_1500 y, motorMap_plain_eq_1500_iff y⟩,
    fun _ notLast => ⟨motorMap_plain_step notLast, motorMap_boost_step notLast⟩,
    length_eraseDups_of_image (motorMap · false) 1400 201 motorMap_image_plain⟩
  obtain ⟨plainLo, plainHi⟩ := motorMap_range_plain y
  exact ⟨motorMap_toNat_plain y, plainLo, plainHi, motorMap_toNat_boost y, motorMap_range y true⟩

theorem isMapped.ne_failsafeCommand {c : Command} (mapped : isMapped c) : c ≠ failsafeCommand := by
  obtain ⟨servoLo, -⟩ := mapped
  rintro rfl
  exact absurd servoLo (by decide)

/-- Settles O15: a mapped command is a legal one, and its servo duty is not 0. -/
theorem mapCommandIsInRange : Obligations.MapCommandIsInRange := by
  intro d
  have mapped := mapCommand_isMapped d
  obtain ⟨servo, motor⟩ := isLegal.within_channelRange (.inr mapped)
  exact ⟨rfl, mapped, servo, motor, mapped.ne_failsafeCommand⟩

/-! ## The printed tables (R147, R148) -/

/-- The entries of a printed table are the values of `f` at 0 to 255. -/
abbrev TableOf {w : Nat} (table : List (BitVec w)) (f : Nat → Nat) : Prop :=
  table.map BitVec.toNat = (List.range 256).map f

theorem TableOf.length {w : Nat} {table : List (BitVec w)} {f : Nat → Nat} (entries : TableOf table f) :
    table.length = 256 := by
  simpa using congrArg List.length entries

theorem TableOf.getElem? {w : Nat} {table : List (BitVec w)} {f : Nat → Nat} (entries : TableOf table f) (v : Byte) :
    table[v.toNat]?.map BitVec.toNat = some (f v.toNat) := by
  rw [← List.getElem?_map, entries, List.getElem?_map, List.getElem?_range v.isLt, Option.map_some]

/-- Every entry the spec prints for the servo (R147). -/
theorem servoLut_entries : TableOf servoLut fun x => (53550 - 120 * x) / 255 := by decide +kernel

/-- Every entry the spec prints for boost = 0 (R148). -/
theorem motorLutPlain_entries : TableOf motorLutPlain fun y => (357000 + 200 * y) / 255 := by decide +kernel

/-- Every entry the spec prints for boost = 1 (R148). -/
theorem motorLutBoost_entries : TableOf motorLutBoost fun y => (255000 + 1000 * y) / 255 := by decide +kernel

theorem motorLutAddress_toNat (y : Byte) (boost : Bool) :
    (motorLutAddress y boost).toNat = boost.toNat * 256 + y.toNat := by
  rw [motorLutAddress, BitVec.toNat_append, ← Nat.shiftLeft_add_eq_or_of_lt y.isLt, Nat.shiftLeft_eq, BitVec.toNat_ofBool]

/-- boost = 0 addresses the first half of the motor table (R40). -/
theorem motorLutRead_plain (y : Byte) : motorLutRead y false = motorLutPlain[y.toNat]? := by
  have inFirst : y.toNat < motorLutPlain.length := motorLutPlain_entries.length ▸ y.isLt
  rw [motorLutRead, motorLutAddress_toNat, motorLut, Bool.toNat_false, Nat.zero_mul, Nat.zero_add,
    List.getElem?_append_left inFirst]

/-- boost = 1 addresses the second half of the motor table (R40). -/
theorem motorLutRead_boost (y : Byte) : motorLutRead y true = motorLutBoost[y.toNat]? := by
  rw [motorLutRead, motorLutAddress_toNat, motorLut, Bool.toNat_true, Nat.one_mul,
    List.getElem?_append_right (by rw [motorLutPlain_entries.length]; omega), motorLutPlain_entries.length,
    Nat.add_sub_cancel_left]

/-- Settles O16: the printed entries are the values of the map's closed form. -/
theorem servoTableEqualsMap : Obligations.ServoTableEqualsMap := by
  refine ⟨servoLut_entries.length, by decide +kernel, fun x => ?_⟩
  rw [servoLutRead, servoLut_entries.getElem?, servoMap_toNat]

/-- Settles O17: the address picks the half by boost, and the printed entries of each half are the values of the map's closed
form. -/
theorem motorTableEqualsMap : Obligations.MotorTableEqualsMap := by
  refine ⟨?_, by decide +kernel, by decide +kernel, fun y => ⟨?_, ?_⟩⟩
  · rw [motorLut, List.length_append, motorLutPlain_entries.length, motorLutBoost_entries.length]
  · rw [motorLutRead_plain, motorLutPlain_entries.getElem?, motorMap_toNat_plain]
  · rw [motorLutRead_boost, motorLutBoost_entries.getElem?, motorMap_toNat_boost]

/-! ## Floating point (R141, R142) -/

/-- The linear map with a numerator that is not negative: floor and truncation agree (R142). -/
theorem linMap_eq_floor {v outLo outHi : Int} (nonneg : 0 ≤ outLo * 255 + v * (outHi - outLo)) :
    linMap v 0 255 outLo outHi = (outLo * 255 + v * (outHi - outLo)) / 255 := by
  rw [linMap, Int.sub_zero, Int.sub_zero, Int.tdiv_eq_ediv_of_nonneg nonneg]

/-- With `p`-bit significands the evaluation of R141 gives the exact form of R142 on every input. An exact value that is an
integer leaves no room for a rounding error below it, so a bound on the error does not decide this; as in the spec, the 256
inputs are evaluated. -/
abbrev FloatAgrees (p : Nat) (outLo outHi : Int) : Prop :=
  ∀ v : Byte, linMapFloat p v.toNat 0 255 outLo outHi = (outLo * 255 + (v.toNat : Int) * (outHi - outLo)) / 255

theorem floatAgrees_servo_binary64 : FloatAgrees binary64 210 90 := by decide +kernel
theorem floatAgrees_servo_binary32 : FloatAgrees binary32 210 90 := by decide +kernel
theorem floatAgrees_motor_plain_binary64 : FloatAgrees binary64 1400 1600 := by decide +kernel
theorem floatAgrees_motor_plain_binary32 : FloatAgrees binary32 1400 1600 := by decide +kernel
theorem floatAgrees_motor_boost_binary64 : FloatAgrees binary64 1000 2000 := by decide +kernel
theorem floatAgrees_motor_boost_binary32 : FloatAgrees binary32 1000 2000 := by decide +kernel

/-- Settles O18: the two formats by evaluation on every input, and the exact map since no numerator is negative. -/
theorem floatingPointAgreesWithExactMap : Obligations.FloatingPointAgreesWithExactMap := by
  intro v
  have inByte := v.isLt
  have servoNonneg : (0 : Int) ≤ 210 * 255 + (v.toNat : Int) * (90 - 210) := by omega
  exact ⟨⟨floatAgrees_servo_binary64 v, floatAgrees_servo_binary32 v, linMap_eq_floor servoNonneg, servoNonneg⟩,
    ⟨floatAgrees_motor_plain_binary64 v, floatAgrees_motor_plain_binary32 v, linMap_eq_floor (by omega)⟩,
    ⟨floatAgrees_motor_boost_binary64 v, floatAgrees_motor_boost_binary32 v, linMap_eq_floor (by omega)⟩⟩

/-! ## The laws (R149) -/

/-- In RUN an RX of the accepted length that answers took the frame and issues the command of the datagram's fields (R120). -/
theorem commands_of_exec_rx {len : BitVec 16} {b : Datagram} {s t : State} (run : s.rxu.mode = .run)
    (length : len.toNat = s.config.rxuWireLen.bytes) (taken : exec (.rx len b) s = .next t) :
    ∃ d, unpack b len.toNat = some d ∧ t.commands = s.commands ++ [mapCommand d] := by
  cases effect_of_exec _ s t taken with
  | idle _ _ mode => exact absurd run mode
  | rxFrame _ _ _ d _ _ fields => exact ⟨d, fields, s.commands_wdFrame _⟩
  | rxDropped _ _ _ _ other => exact absurd length other

/-- Settles O19: the laws by the maps' values; for (d), UNPACK reads the datagram and `len` alone. -/
theorem mapperLaws : Obligations.MapperLaws := by
  refine ⟨⟨by decide, by decide, fun _ => servoMap_antitone_step⟩, by decide, by decide, ?dependence, motorMap_range_plain⟩
  intro len b s t s' t' runS runT sameLen length takenS takenT
  obtain ⟨d, unpackedS, issuedS⟩ := commands_of_exec_rx runS length takenS
  obtain ⟨d', unpackedT, issuedT⟩ := commands_of_exec_rx runT (sameLen ▸ length) takenT
  obtain rfl : d = d' := Option.some_inj.mp (unpackedS.symm.trans unpackedT)
  exact ⟨mapCommand d, issuedS, issuedT⟩

end Sys2Proof.Machine
end

section
/-!
PROOF. The watchdog and the mux (spec 41 R161, 43 R160, R162 to R164, R166 to R168).
-/

namespace Sys2Proof.Machine

open Sys2Proof

/-! ## One transaction: RX and TICK in RUN (R161 to R163) -/

/-- Settles O11: the effect of a valid frame, whose fields UNPACK reads from the last three bytes. -/
theorem rxAppliesMappedCommand : Obligations.RxAppliesMappedCommand := by
  intro len before f2 f1 f0 s run length bytes
  have fields : unpack (before ++ [f2, f1, f0]) len.toNat = some ⟨f2.getLsbD 0, f1, 255 - f0⟩ := by
    rw [length]
    exact unpackReadsThreeBytes.1 _ before f2 f1 f0 bytes
  exact ⟨exec_of_effect _ _ _ (.rxFrame len _ s ⟨f2.getLsbD 0, f1, 255 - f0⟩ run length fields),
    (mapCommand_isMapped ⟨f2.getLsbD 0, f1, 255 - f0⟩).ne_failsafeCommand⟩

/-- Settles O20: the effect of a TICK below `TIMEOUT_TICKS`. -/
theorem tickCountsBelowTimeout : Obligations.TickCountsBelowTimeout := by
  refine ⟨fun s below run => exec_of_effect _ _ _ (.tickCounted s run below), ?_, by decide⟩
  intro s one
  omega

/-- Settles O21: the effect of a TICK that reaches `TIMEOUT_TICKS`. -/
theorem tickExpiresAtTimeout : Obligations.TickExpiresAtTimeout := by
  refine ⟨fun s run reached => ?_, by decide⟩
  rw [List.append_cons]
  exact exec_of_effect _ _ _ (.tickExpired s run reached)

/-- Settles O25: a valid frame completes, since its buffer has the bytes UNPACK reads, and its mapped command is not
(0, 0). -/
theorem firstFrameEndsFailsafe : Obligations.FirstFrameEndsFailsafe := by
  intro len b s run _ length bytes
  obtain ⟨d, fields⟩ := unpack_isSome b len.toNat bytes.ge
  exact ⟨d, _, fields, exec_of_effect _ _ _ (.rxFrame len b s d run length fields), s.commands_wdFrame _,
    (mapCommand_isMapped d).ne_failsafeCommand, rfl⟩

/-! ## Any transaction: the state machine and the mux (R160, R164) -/

/-- Settles O22: of all effects, only a frame and an expiry issue a command. -/
theorem muxFollowsWatchdogState : Obligations.MuxFollowsWatchdogState := by
  refine ⟨fun c => ⟨rfl, rfl⟩, fun i s t taken issued => ?_⟩
  cases effect_of_exec i s t taken with
  | rxFrame _ _ _ d => exact .inl ⟨rfl, d, s.commands_wdFrame _⟩
  | tickExpired => exact .inr ⟨rfl, s.commands_wdExpire⟩
  | _ => exact absurd (by simp) issued

/-- An effect on `wd_state`: none, ACTIVE by RESET of the RXU or by a frame, or FAILSAFE by an expiry (R160). -/
theorem Effect.wdState {i : Instr} {s t : State} (h : Effect i s t) :
    t.rxu.wdState = s.rxu.wdState ∨
      (t.rxu.wdState = .active ∧ ((∃ ok, i = .reset .rxu ok) ∨
        (s.rxu.mode = .run ∧ ∃ len b, i = .rx len b ∧ len.toNat = s.config.rxuWireLen.bytes))) ∨
      (t.rxu.wdState = .failsafe ∧ i = .tick ∧ s.rxu.mode = .run ∧ s.rxu.wdCount + 1 = s.config.timeoutTicks) := by
  cases h with
  | rxFrame len b _ _ run length => exact .inr (.inl ⟨rfl, .inr ⟨run, len, b, rfl, length⟩⟩)
  | resetRxuOk => exact .inr (.inl ⟨rfl, .inl ⟨true, rfl⟩⟩)
  | resetRxuFailed => exact .inr (.inl ⟨rfl, .inl ⟨false, rfl⟩⟩)
  | tickExpired _ run reached => exact .inr (.inr ⟨rfl, rfl, run, reached⟩)
  | _ => exact .inl rfl

theorem State.failsafe_eq_true_iff (s : State) : s.failsafe = true ↔ s.rxu.wdState = .failsafe := by
  rw [State.failsafe]
  cases s.rxu.wdState <;> decide

/-- Settles O23: the effects on `wd_state`, each of which ends in one state only. -/
theorem watchdogStateChangesOnlyAsTabled : Obligations.WatchdogStateChangesOnlyAsTabled := by
  intro i s t taken
  refine ⟨fun before after => ?entered, fun before after => ?left, t.failsafe_eq_true_iff⟩
  case entered =>
    rcases (effect_of_exec i s t taken).wdState with same | ⟨active, -⟩ | ⟨-, expiry⟩
    · simp [before, after] at same
    · simp [after] at active
    · exact expiry
  case left =>
    rcases (effect_of_exec i s t taken).wdState with same | ⟨-, restart⟩ | ⟨failsafe, -⟩
    · simp [before, after] at same
    · exact restart
    · simp [after] at failsafe

/-! ## Silence (R166, R168) -/

/-- In `u` the RXU is in RUN, with `ticks` TICKs counted since `s` and no command issued since. -/
abbrev State.Waited (ticks : Nat) (s u : State) : Prop :=
  u.config = s.config ∧ u.rxu.mode = .run ∧ u.commands = s.commands ∧ u.rxu.wdCount = s.rxu.wdCount + ticks

/-- The watchdog waits through a silent transaction that leaves its count below `TIMEOUT_TICKS`. -/
theorem Effect.waited {i : Instr} {s t : State} (h : Effect i s t) (run : s.rxu.mode = .run)
    (silent : keepsSilence s.config.rxuWireLen i = true)
    (below : s.rxu.wdCount + [i].count .tick < s.config.timeoutTicks) : s.Waited ([i].count .tick) t := by
  cases h with
  | idle _ _ mode =>
    have noTick : i ≠ .tick := by
      rintro rfl
      exact mode run
    simp [State.Waited, run, noTick]
  | rxFrame _ _ _ _ _ length => simp [keepsSilence, length] at silent
  | tickCounted => exact ⟨rfl, run, rfl, rfl⟩
  | tickExpired _ _ reached => exact absurd reached below.ne
  | shutdownRxu | resetRxuOk | resetRxuFailed => simp [keepsSilence] at silent
  | _ => simp [State.Waited, run]

/-- The watchdog waits through silent transactions whose TICKs leave its count below `TIMEOUT_TICKS`. -/
theorem runSteps_waited (is : List Instr) (rest : List Txn) (s : State) (run : s.rxu.mode = .run)
    (silent : ∀ i ∈ is, i.wf = true ∧ keepsSilence s.config.rxuWireLen i = true)
    (below : s.rxu.wdCount + is.count .tick < s.config.timeoutTicks) (waiting : s.inputs = is.map encode ++ rest) :
    ∃ u, runSteps is.length s = .next u ∧ s.Waited (is.count .tick) u ∧ u.inputs = rest := by
  induction is generalizing s with
  | nil => exact ⟨s, rfl, ⟨rfl, run, rfl, rfl⟩, waiting⟩
  | cons i is ih =>
    obtain ⟨⟨wf, silentI⟩, silentIs⟩ := List.forall_mem_cons.mp silent
    have ticks : (i :: is).count .tick = [i].count .tick + is.count .tick := List.count_append (l₁ := [i])
    rw [ticks, ← Nat.add_assoc] at below
    rw [ticks]
    obtain ⟨t, effect⟩ := Effect.exists_of_wf i (s.withInputs (is.map encode ++ rest)) wf
    obtain ⟨configT, runT, commandsT, countT⟩ := effect.waited run silentI ((Nat.le_add_right _ _).trans_lt below)
    obtain ⟨u, ran, ⟨config, runU, commands, count⟩, inputs⟩ :=
      ih t runT (by rwa [configT]) (by rwa [countT, configT]) effect.frame.2.1
    refine ⟨u, (runSteps_encode _ s t i _ wf waiting effect).trans ran, ⟨?_, runU, ?_, ?_⟩, inputs⟩
    · rw [config, configT, State.withInputs_config]
    · rw [commands, commandsT, State.withInputs_commands]
    · rw [count, countT, State.withInputs_rxu, Nat.add_assoc]

/-- Silence in which the count lacks one TICK of `TIMEOUT_TICKS`, then that TICK: no command before it, and (0, 0) at it. -/
theorem runSteps_expires (is : List Instr) (rest : List Txn) (s : State) (run : s.rxu.mode = .run)
    (silent : ∀ i ∈ is, i.wf = true ∧ keepsSilence s.config.rxuWireLen i = true)
    (full : s.rxu.wdCount + is.count .tick + 1 = s.config.timeoutTicks)
    (waiting : s.inputs = is.map encode ++ encode .tick :: rest) :
    ∃ u t, runSteps is.length s = .next u ∧ u.commands = s.commands ∧ u.inputs = encode .tick :: rest ∧
      step u = .next t ∧ runSteps (is.length + 1) s = .next t ∧ t.inputs = rest ∧
      t.commands = s.commands ++ [⟨0, 0⟩] ∧ t.rxu.mode = .run ∧ t.rxu.wdState = .failsafe ∧ t.rxu.wdCount = 0 := by
  obtain ⟨u, ran, ⟨config, runU, commands, count⟩, inputs⟩ :=
    runSteps_waited is (encode .tick :: rest) s run silent (by omega) waiting
  have expiry : Effect .tick (u.withInputs rest) (u.withInputs rest).wdExpire :=
    .tickExpired _ runU (by rw [State.withInputs_rxu, State.withInputs_config, count, config, full])
  have last : step u = .next (u.withInputs rest).wdExpire :=
    (step_encode u .tick rest rfl inputs).trans (exec_of_effect _ _ _ expiry)
  refine ⟨u, _, ran, commands, inputs, last, ?_, rfl, ?_, runU, rfl, rfl⟩
  · rw [runSteps_add _ 1 s u ran, runSteps_succ 0 u _ last, runSteps_zero]
  · rw [State.commands_wdExpire, State.withInputs_commands, commands]
    rfl

/-- What the count starts from (R166): RESET `ok` of the RXU, or a valid frame in RUN, with the commands it issues. -/
abbrev State.RestartedBy (s : State) (start : Instr) (issued : List Command) : Prop :=
  (start = .reset .rxu true ∧ issued = []) ∨
    (s.rxu.mode = .run ∧ ∃ len b d, start = .rx len b ∧ len.toNat = s.config.rxuWireLen.bytes ∧
      b.length = len.toNat ∧ unpack b len.toNat = some d ∧ issued = [mapCommand d])

/-- Such a transaction completes, whatever waits behind it, and leaves RUN with the count at 0. -/
theorem State.RestartedBy.exists_effect {s : State} {start : Instr} {issued : List Command}
    (restart : s.RestartedBy start issued) (waiting : List Txn) :
    start.wf = true ∧ ∃ t, Effect start (s.withInputs waiting) t ∧ t.config = s.config ∧ t.rxu.mode = .run ∧
      t.rxu.wdCount = 0 ∧ t.commands = s.commands ++ issued := by
  rcases restart with ⟨rfl, rfl⟩ | ⟨run, len, b, d, rfl, length, bytes, fields, rfl⟩
  · exact ⟨rfl, _, .resetRxuOk _, rfl, rfl, rfl, by simp⟩
  · exact ⟨beq_iff_eq.mpr bytes, _, .rxFrame len b _ d run length fields, rfl, run, rfl, by simp⟩

/-- Settles O24: the start, the silence before the last TICK, and the expiry at it. -/
theorem failsafeTriggersAtTimeout : Obligations.FailsafeTriggersAtTimeout := by
  intro s start issued is rest restart silent ticks last waiting
  obtain ⟨before, rfl⟩ := List.getLast?_eq_some_iff.mp last
  obtain ⟨wf, s₁, effect, config, run, count, commands⟩ :=
    State.RestartedBy.exists_effect restart ((before ++ [Instr.tick]).map encode ++ rest)
  have started : ∀ k, runSteps (k + 1) s = runSteps k s₁ := fun k =>
    runSteps_encode k s s₁ start _ wf waiting effect
  rw [List.length_append, List.length_singleton, started, started, ← commands]
  exact runSteps_expires before rest s₁ run (fun i mem => config ▸ silent i (List.mem_append_left _ mem))
    (by simpa [count, config] using ticks) (by simp [effect.frame.2.1])

/-- TICKs are silent. -/
theorem ticks_silent (w : WireLen) (n : Nat) :
    ∀ i ∈ List.replicate n Instr.tick, i.wf = true ∧ keepsSilence w i = true := by
  intro i mem
  rw [List.eq_of_mem_replicate mem]
  exact ⟨rfl, rfl⟩

/-- The time between a frame and the TICK that ends the `n`-th period after its own begins: more than `n - 1` periods and at
most `n`. -/
theorem tick_time_bounds {t0 frameTime hz n : ℚ} (lo : t0 ≤ frameTime) (hi : frameTime < t0 + 1 / hz) :
    frameTime + (n - 1) / hz < t0 + n / hz ∧ t0 + n / hz ≤ frameTime + n / hz := by
  rw [sub_div]
  constructor <;> linarith

/-- Settles O26: fewer TICKs than `TIMEOUT_TICKS` are silence, and the last one expires. -/
theorem failsafeLatencyBound : Obligations.FailsafeLatencyBound := by
  intro s t0 frameTime rest lo hi run zero waiting
  refine ⟨fun k below => ?silence, ?expiry, tick_time_bounds lo hi⟩
  case silence =>
    obtain ⟨u, ran, ⟨-, -, commands, -⟩, -⟩ := runSteps_waited (.replicate k .tick)
      (.replicate (s.config.timeoutTicks - k) (encode .tick) ++ rest) s run (ticks_silent _ k)
      (by simpa [zero] using below)
      (by rw [waiting, List.map_replicate, ← List.append_assoc, List.replicate_append_replicate,
        Nat.add_sub_cancel' below.le])
    rw [List.length_replicate] at ran
    exact ⟨u, ran, commands⟩
  case expiry =>
    obtain ⟨n, ticks⟩ := Nat.exists_eq_add_one.mpr s.zeroInRange
    obtain ⟨-, t, -, -, -, -, ran, -, issued, -⟩ := runSteps_expires (.replicate n .tick) rest s run (ticks_silent _ n)
      (by simp [zero, ticks])
      (by rw [waiting, ticks, List.map_replicate, List.replicate_succ', List.append_assoc, List.singleton_append])
    rw [List.length_replicate, ← ticks] at ran
    exact ⟨t, ran, issued⟩

end Sys2Proof.Machine
end

section
/-!
PROOF. SHUTDOWN, and what SHUTDOWN and RESET leave unchanged (spec 43 R165, 70 R220).
-/

namespace Sys2Proof.Machine

open Sys2Proof

/-- Settles O38: neither transaction sends a datagram or issues a command, and SHUTDOWN writes one mode. -/
theorem frameOfShutdownAndReset : Obligations.FrameOfShutdownAndReset := by
  refine ⟨fun i s t u sent taken => ?both, fun s t u taken => ?shutdown⟩
  case both =>
    have effect := effect_of_exec i s t taken
    have unit : i.unit = u := by
      rcases sent with rfl | ⟨ok, rfl⟩ <;> rfl
    have ports : t.datagrams = s.datagrams ∧ t.commands = s.commands := by
      cases effect with
      | batchSent | rxFrame | tickExpired => simp at sent
      | _ => simp
    obtain ⟨config, inputs, rxu, txu⟩ := effect.frame
    obtain ⟨datagrams, commands⟩ := ports
    exact ⟨config, inputs, datagrams, commands, State.heldDuty_congr config commands, unit ▸ rxu, unit ▸ txu⟩
  case shutdown =>
    cases effect_of_exec _ s t taken with
    | idle | shutdownTxu | shutdownRxu => exact ⟨rfl, rfl, rfl⟩

/-- SHUTDOWN in RUN leaves HALT. -/
theorem modeOf_of_exec_shutdown {u : UnitId} {s t : State} (run : s.modeOf u = .run)
    (taken : exec (.shutdown u) s = .next t) : t.modeOf u = .halt := by
  cases effect_of_exec _ s t taken with
  | idle _ _ mode => exact absurd run mode
  | shutdownTxu | shutdownRxu => rfl

theorem State.heldDuty_of_no_command {s : State} (none : s.commands = []) : s.heldDuty = s.config.actInit := by
  simp [State.heldDuty, none]

/-- Settles O27: the effects of SHUTDOWN, its frame for the held duty, and the mode gate for what follows. -/
theorem shutdownHaltsOneUnit : Obligations.ShutdownHaltsOneUnit := by
  refine ⟨fun s run => exec_of_effect _ _ _ (.shutdownTxu s run), fun s run => exec_of_effect _ _ _ (.shutdownRxu s run),
    fun u s t taken => ?held, fun i s t run taken other => ?after, fun u => rfl⟩
  case held =>
    obtain ⟨outputs, -, rxu⟩ := frameOfShutdownAndReset.2 s t u taken
    obtain ⟨-, -, -, commands, held, -⟩ := frameOfShutdownAndReset.1 _ s t u (.inl rfl) taken
    refine ⟨outputs, held, fun inv mode valid => ?_, fun none => State.heldDuty_of_no_command (commands.trans none)⟩
    calc t.heldDuty
      _ = s.rxu.command := held.trans (inv mode valid)
      _ = Rxu.command { t.rxu with mode := s.rxu.mode } := congrArg Rxu.command rxu.symm
  case after =>
    refine idleUnitIgnoresAllButReset i t ?_ other
    rw [modeOf_of_exec_shutdown run taken]
    decide

end Sys2Proof.Machine
end

section
/-!
PROOF. The codes on `log_out`, and completion (spec 60 R200 to R207).
-/

namespace Sys2Proof.Machine

open Sys2Proof

/-! ## The codes on `log_out` (R200 to R207) -/

@[simp] theorem State.logs_emitDatagram (s : State) (d : Datagram) : (s.emitDatagram d).logs = s.logs := by
  simp [State.logs]

@[simp] theorem State.logs_raise (s : State) (code : LogCode) : (s.raise code).logs = s.logs ++ [code] := by
  simp [State.logs]

@[simp] theorem State.logs_wdFrame (s : State) (c : Command) : (s.wdFrame c).logs = s.logs := by
  simp [State.logs]

@[simp] theorem State.logs_wdExpire (s : State) : s.wdExpire.logs = s.logs ++ [.receiveTimeout] := by
  simp [State.logs]

/-- Settles O33: of all effects, five raise a code, each its own. -/
theorem errorsRaisedOnlyByTheirTransaction : Obligations.ErrorsRaisedOnlyByTheirTransaction := by
  refine ⟨fun i s t taken => ?_, by decide⟩
  cases effect_of_exec i s t taken with
  | resetTxuFailed => exact .inr (.inl ⟨rfl, rfl, by simp⟩)
  | batchFailed _ run => exact .inr (.inr (.inl ⟨rfl, run, rfl, by simp⟩))
  | resetRxuFailed => exact .inr (.inr (.inr (.inl ⟨rfl, rfl, by simp⟩)))
  | tickExpired _ run reached => exact .inr (.inr (.inr (.inr (.inl ⟨rfl, run, reached, rfl, by simp⟩))))
  | rxDropped len b _ run length =>
    exact .inr (.inr (.inr (.inr (.inr ⟨len, b, rfl, run, length, rfl, by simp⟩))))
  | _ => exact .inl (by simp)

/-! ## Completion (R205) -/

/-- A step waits, runs a decoded transaction, which is well-formed and so completes, or refuses. -/
theorem step_ne_fault (s : State) (f : Fault) : step s ≠ .fault f := by
  cases waiting : s.inputs with
  | nil => simp [step_idle s waiting]
  | cons x rest =>
    cases decoded : x.decode with
    | error why => simp [step_of_refused waiting decoded]
    | ok i =>
      obtain ⟨wf, -⟩ := encode_of_decode decoded
      obtain ⟨t, effect⟩ := Effect.exists_of_wf i (s.withInputs rest) wf
      simp [step_of_decode waiting decoded, exec_of_effect _ _ _ effect]

/-- Settles O34: a well-formed transaction has an effect in every state, and what a step runs is well-formed. -/
theorem everyTransactionCompletes : Obligations.EveryTransactionCompletes := by
  refine ⟨fun i s wf => ?_, step_ne_fault⟩
  obtain ⟨t, effect⟩ := Effect.exists_of_wf i s wf
  exact ⟨t, exec_of_effect i s t effect⟩

end Sys2Proof.Machine
end

section
/-!
PROOF. The inputs of one cycle (spec 60 R209): `cycleOrder` as a stable sort by rank, and a frame that comes
with a TICK.
-/

namespace Sys2Proof.Machine

open Sys2Proof

/-! ## The order by rank -/

/-- The place of a kind among the inputs of one cycle. -/
def kindRank : TxnKind → Nat
  | .reset => 0
  | .shutdown => 1
  | .event | .rx => 2
  | .batch | .tick => 3

theorem cycleRank_of_kind {x : Txn} {k : TxnKind} (kind : kindOf (wordKind x.word) = some k) :
    cycleRank x = kindRank k := by
  rw [cycleRank, kind]
  cases k <;> rfl

theorem cycleRank_congr {x y : Txn} (same : kindOf (wordKind x.word) = kindOf (wordKind y.word)) :
    cycleRank x = cycleRank y := by
  rw [cycleRank, cycleRank, same]

theorem cycleRank_lt_five (x : Txn) : cycleRank x < 5 := by
  rw [cycleRank]
  split <;> decide

/-- Over a range, a list given for one index only. -/
theorem flatMap_range_ite {α : Type} (n r : Nat) (l : List α) :
    ((List.range n).flatMap fun q => if q = r then l else []) = if r < n then l else [] := by
  induction n with
  | zero => simp
  | succ n ih =>
    rw [List.range_succ, List.flatMap_append, ih, List.flatMap_singleton]
    rcases Nat.lt_trichotomy r n with below | rfl | above
    · simp [below, below.ne', below.trans n.lt_succ_self]
    · simp
    · simp [above.ne, above.not_gt, Nat.not_lt_of_le (Nat.succ_le_of_lt above)]

theorem cycleRank_of_mem_filter {ts : List Txn} {r : Nat} {x : Txn} (mem : x ∈ ts.filter fun y => cycleRank y == r) :
    cycleRank x = r :=
  beq_iff_eq.mp (List.of_mem_filter (p := fun y => cycleRank y == r) mem)

theorem filter_rank_filter_rank (ts : List Txn) (q r : Nat) :
    (ts.filter fun x => cycleRank x == q).filter (fun x => cycleRank x == r) =
      if q = r then ts.filter fun x => cycleRank x == r else [] := by
  by_cases same : q = r
  · simp [same]
  · have other : ∀ x ∈ ts, cycleRank x = r → cycleRank x ≠ q := fun _ _ e e' => same (e'.symm.trans e)
    simpa [same] using other

/-- Of each rank, `cycleOrder` has the transactions that were given, in arrival order. -/
theorem cycleOrder_filter_rank (ts : List Txn) (r : Nat) :
    (cycleOrder ts).filter (fun x => cycleRank x == r) = ts.filter (fun x => cycleRank x == r) := by
  rw [cycleOrder, List.filter_flatMap]
  simp only [filter_rank_filter_rank]
  rw [flatMap_range_ite]
  split
  · rfl
  · next large =>
    refine (List.eq_nil_iff_forall_not_mem.mpr fun x mem => large ?_).symm
    exact cycleRank_of_mem_filter mem ▸ cycleRank_lt_five x

/-- A transaction is in `cycleOrder` as often as it was given, because those of its own rank are. -/
theorem cycleOrder_perm (ts : List Txn) : (cycleOrder ts).Perm ts := by
  refine List.perm_iff_count.mpr fun x => ?_
  have own (l : List Txn) : (l.filter fun y => cycleRank y == cycleRank x).count x = l.count x :=
    List.count_filter (beq_self_eq_true (cycleRank x))
  rw [← own (cycleOrder ts), cycleOrder_filter_rank, own ts]

/-- The ranks are taken in order, and within one all ranks are equal. -/
theorem cycleOrder_pairwise_rank (ts : List Txn) : (cycleOrder ts).Pairwise fun a b => cycleRank a ≤ cycleRank b := by
  have ordered {q r : Nat} (le : q ≤ r) : ∀ a ∈ ts.filter (fun x => cycleRank x == q),
      ∀ b ∈ ts.filter (fun x => cycleRank x == r), cycleRank a ≤ cycleRank b := fun a ha b hb => by
    rwa [cycleRank_of_mem_filter ha, cycleRank_of_mem_filter hb]
  rw [cycleOrder, List.pairwise_flatMap]
  exact ⟨fun r _ => List.pairwise_of_forall_mem_list (ordered le_rfl),
    List.pairwise_lt_range.imp fun lt => ordered lt.le⟩

/-- Settles O54: the rank by the kind, and the order by its part of each rank. -/
theorem cycleOrderIsStableByRank : Obligations.CycleOrderIsStableByRank := by
  refine ⟨fun _ _ => cycleRank_congr, ?ranks, fun ts _ =>
    ⟨cycleOrder_perm ts, cycleOrder_pairwise_rank ts, cycleOrder_filter_rank ts⟩⟩
  intro reset shutdown rx event tick batch hreset hshutdown hrx hevent htick hbatch
  rw [cycleRank_of_kind hreset, cycleRank_of_kind hshutdown, cycleRank_of_kind hrx, cycleRank_of_kind hevent,
    cycleRank_of_kind htick, cycleRank_of_kind hbatch]
  decide

/-! ## A frame and a TICK of one cycle -/

/-- Of a TICK and then a frame in one cycle, the frame is taken first. -/
theorem cycleOrder_tick_rx (len : BitVec 16) (b : Datagram) :
    cycleOrder [encode .tick, encode (.rx len b)] = [encode (.rx len b), encode .tick] := by
  have tick : cycleRank (encode .tick) = 3 := cycleRank_of_kind (k := .tick) (by decide)
  have rx : cycleRank (encode (.rx len b)) = 2 :=
    cycleRank_of_kind (k := .rx) ((congrArg kindOf (wordKind_rxWord len b)).trans kindOf_rx)
  simp [cycleOrder, List.range_succ, tick, rx]

/-- A TICK right after a restart of the count is counted, or expires where `TIMEOUT_TICKS` is 1. -/
theorem Effect.tick_after_restart (s : State) (run : s.rxu.mode = .run) (zero : s.rxu.wdCount = 0) :
    ∃ t, Effect .tick s t ∧
      (2 ≤ s.config.timeoutTicks →
        t.commands = s.commands ∧ t.rxu.wdState = s.rxu.wdState ∧ t.rxu.wdCount = 1) ∧
      (s.config.timeoutTicks = 1 →
        t.commands = s.commands ++ [⟨0, 0⟩] ∧ t.rxu.wdState = .failsafe ∧ t.rxu.wdCount = 0) := by
  rcases s.tick_cases with below | reached
  · refine ⟨_, .tickCounted s run below, fun _ => ⟨rfl, rfl, by simp [zero]⟩, fun one => ?_⟩
    omega
  · refine ⟨_, .tickExpired s run reached, fun two => ?_, fun _ => ⟨s.commands_wdExpire, rfl, rfl⟩⟩
    omega

/-- Settles O55: the frame is taken first and restarts the count, and the TICK finds it at 0. -/
theorem frameBeatsTickOfOneCycle : Obligations.FrameBeatsTickOfOneCycle := by
  intro s len b d run length bytes fields _ waiting
  rw [cycleOrder_tick_rx] at waiting
  have frame : Effect (.rx len b) (s.withInputs [encode .tick])
      ((s.withInputs [encode .tick]).wdFrame (mapCommand d)) := .rxFrame len b _ d run length fields
  obtain ⟨t, tick, counted, expired⟩ := Effect.tick_after_restart
    (((s.withInputs [encode .tick]).wdFrame (mapCommand d)).withInputs []) run rfl
  refine ⟨t, ?_, tick.frame.2.1, ?_, ?_⟩
  · exact (runSteps_encode 1 s _ (.rx len b) _ (beq_iff_eq.mpr bytes) waiting frame).trans
      (runSteps_encode 0 _ t .tick [] rfl rfl tick)
  · simpa using counted
  · simpa using expired

end Sys2Proof.Machine
end

section
/-!
PROOF. RESET and the states right after it (spec 70 R220 to R222, R235), and two units built with different `WIRE_LEN`
(70 R237).
-/

namespace Sys2Proof

theorem WireLen.bytes_injective : Function.Injective WireLen.bytes
  | .w8, .w8, _ => rfl
  | .w3, .w3, _ => rfl

/-- The length of a datagram of the TXU fits the `len` field of an RX. -/
theorem WireLen.toNat_ofNat_bytes (w : WireLen) : (BitVec.ofNat 16 w.bytes).toNat = w.bytes := by
  cases w <;> rfl

namespace Machine

/-! ## RESET (R220 to R222) -/

/-- Settles O28: the four effects of RESET, and the two words, which do not depend on the unit. -/
theorem resetWritesEveryRegister : Obligations.ResetWritesEveryRegister :=
  ⟨fun s => ⟨exec_of_effect _ _ _ (.resetTxuOk s), exec_of_effect _ _ _ (.resetTxuFailed s),
    exec_of_effect _ _ _ (.resetRxuOk s), exec_of_effect _ _ _ (.resetRxuFailed s)⟩, fun _ => ⟨rfl, rfl⟩⟩

/-- With these parameters and nothing emitted, RESET `ok` of the TXU and then of the RXU overwrites all that is left. -/
theorem State.writeUnits_afterReset (s : State) (waiting : List Txn) (config : s.config = Config.thisHardware)
    (silent : s.outputs = []) :
    (((s.withInputs waiting).writeTxu (Txu.afterReset s.config true)).withInputs []).writeRxu (Rxu.afterReset true)
      (s.resetInRange true) = State.reset := by
  cases s
  subst config silent
  rfl

/-- Settles O31: the effects of the two RESETs, one after the other. -/
theorem resetFromPowerOnGivesResetState : Obligations.ResetFromPowerOnGivesResetState := by
  rintro s ⟨-, -, silent⟩ config waiting
  rw [← s.writeUnits_afterReset [encode (.reset .rxu true)] config silent]
  exact (runSteps_encode 1 s _ (.reset .txu true) _ rfl waiting (.resetTxuOk _)).trans
    (runSteps_encode 0 _ _ (.reset .rxu true) [] rfl rfl (.resetRxuOk _))

/-- Settles O49: nothing has been emitted, and the RXU is ACTIVE with its output registers at 0 and `out_valid` clear. -/
theorem invariantsHoldAtReset : Obligations.InvariantsHoldAtReset := by
  refine ⟨State.reset.config.timing, fun _ => ?rxu, ?trace, ?held⟩
  case rxu => exact ⟨nofun, .inl rfl, .inl rfl⟩
  case trace => exact ⟨List.forall_mem_nil _, List.forall_mem_nil _⟩
  case held => exact fun _ => nofun

/-- Settles O32: the BATCH finds the TXU in RUN with the registers that RESET wrote, and sends their datagram. -/
theorem firstDatagramCarriesResetValues : Obligations.FirstDatagramCarriesResetValues := by
  intro s rest waiting
  -- `by exact` waits until the state that RESET leaves is known, whose mode is RUN.
  have two := (runSteps_encode 1 s _ (.reset .txu true) _ rfl waiting (.resetTxuOk _)).trans <|
    runSteps_encode 0 _ _ (.batch true) rest rfl rfl (.batchSent _ (by exact rfl))
  exact ⟨_, two, State.datagrams_emitDatagram _ _⟩

/-! ## Different `WIRE_LEN` (R237) -/

/-- Settles O53: the datagram has the TXU's `WIRE_LEN`, which is not the RXU's, so its RX is dropped. -/
theorem wireLenMismatchDropsEveryDatagram : Obligations.WireLenMismatchDropsEveryDatagram := by
  rintro s d run unlinked ⟨length, -⟩
  have other : (BitVec.ofNat 16 d.length).toNat ≠ s.config.rxuWireLen.bytes := by
    rw [length, WireLen.toNat_ofNat_bytes]
    exact fun same => unlinked (WireLen.bytes_injective same)
  exact exec_of_effect _ _ _ (.rxDropped _ d s run other)

end Machine
end Sys2Proof
end
